-- ==== Sys2Proof/Word.lean ====
section
/-! DEFINITION. The two widths of the machine (spec/00_scope.md R8): a Byte is 0..255, an Address or PC value is
0..65535, and all arithmetic on them wraps modulo their width, which is what `BitVec` arithmetic does. The byte-order
and sign-extension helpers are in Decode.lean. -/

namespace Sys2Proof

/-- A byte, R8: registers A, X, Y, S and every memory cell. -/
abbrev Byte := BitVec 8

/-- A 16-bit value, R8: PC and every bus address. -/
abbrev Word := BitVec 16

end Sys2Proof
end

