-- ==== Sys2Proof/Syntax.lean ====
section
/-! DEFINITION. The abstract syntax: one constructor of `Instr` for each of the 256 rows of spec/opcode_table.json
(spec/30_encoding.md R167, R172), with the row's operand as its argument. A two-digit suffix is the opcode where several
rows share mnemonic and mode (nop1A, ancImm0B, jam02). The constructors with an operand come first and those
without one last (a limit of Lean's runtime on the number of constructors that carry data); inside each part they
stand in the order of the spec's rules. -/

namespace Sys2Proof

/-- The operation kind of an instruction table entry (R11), one per mnemonic of spec/opcode_table.json. -/
inductive Kind where
  | lda | ldx | ldy | sta | stx | sty | tax | tay | txa | tya | tsx | txs | pha | php | pla | plp | adc | sbc 
  | and | ora | eor | cmp | cpx | cpy | bit | inc | dec | inx | iny | dex | dey | asl | lsr | rol | ror | jmp 
  | jsr | rts | rti | bcc | bcs | beq | bne | bmi | bpl | bvc | bvs | brk | clc | sec | cli | sei | clv | cld 
  | sed | nop | lax | sax | dcp | isb | slo | rla | sre | rra | anc | alr | arr | sbx | las | jam | ane | sha 
  | tas | shy | shx | lxa
deriving DecidableEq, Repr

/-- The addressing mode of a table entry (R151). `unknown` is the format of the unknown marker's rows (R172). -/
inductive Mode where
  | imp | acc | imm | zp | zpx | zpy | rel | abs | absx | absy | ind | izx | izy | unknown
deriving DecidableEq, Repr

/-- The operation class of a table entry (R171), which fixes its data access and its page-crossing penalty. -/
inductive AccessClass where
  | none | read | write | rmw
deriving DecidableEq, Repr

/-- Which part of the opcode map a table entry belongs to (R167 to R170). -/
inductive Group where
  /-- one of the 151 official opcodes -/
  | official
  /-- one of the 80 unofficial opcodes that always have an entry (R168) -/
  | unofficial
  /-- one of the six opcodes that have an entry only when EXTRA_UNOFFICIAL is true (R169) -/
  | optional
  /-- one of the nineteen opcodes whose entry is always the unknown marker (R170) -/
  | unknown
deriving DecidableEq, Repr

/-- An operand in memory, with its operand byte `z` or operand word `w` (R156 to R158, R160 to R164). -/
inductive MemOperand where
  | zp (z : Byte)
  | zpx (z : Byte)
  | zpy (z : Byte)
  | abs (w : Word)
  | absx (w : Word)
  | absy (w : Word)
  | izx (z : Byte)
  | izy (z : Byte)
deriving DecidableEq, Repr

/-- A source operand: an immediate byte (R155) or a byte in memory. -/
inductive Source where
  | imm (b : Byte)
  | mem (m : MemOperand)
deriving DecidableEq, Repr

/-- The operand of an instruction, one form per row of R151. -/
inductive Operand where
  /-- implied (R153), and the unknown marker, whose operands are not fetched (R357) -/
  | imp
  /-- accumulator (R154) -/
  | acc
  /-- immediate (R155) -/
  | imm (b : Byte)
  /-- one of the eight memory modes -/
  | mem (m : MemOperand)
  /-- relative (R165) -/
  | rel (r : Byte)
  /-- indirect, JMP only (R159) -/
  | ind (w : Word)
deriving DecidableEq, Repr

/-- The instructions: one constructor per row of spec/opcode_table.json. -/
inductive Instr where
  /-- 0xA1 LDA (zp,X) (R200) -/
  | ldaIzx (z : Byte)
  /-- 0xA5 LDA zp (R200) -/
  | ldaZp (z : Byte)
  /-- 0xA9 LDA #imm (R200) -/
  | ldaImm (b : Byte)
  /-- 0xAD LDA abs (R200) -/
  | ldaAbs (w : Word)
  /-- 0xB1 LDA (zp),Y (R200) -/
  | ldaIzy (z : Byte)
  /-- 0xB5 LDA zp,X (R200) -/
  | ldaZpx (z : Byte)
  /-- 0xB9 LDA abs,Y (R200) -/
  | ldaAbsy (w : Word)
  /-- 0xBD LDA abs,X (R200) -/
  | ldaAbsx (w : Word)
  /-- 0xA2 LDX #imm (R201) -/
  | ldxImm (b : Byte)
  /-- 0xA6 LDX zp (R201) -/
  | ldxZp (z : Byte)
  /-- 0xAE LDX abs (R201) -/
  | ldxAbs (w : Word)
  /-- 0xB6 LDX zp,Y (R201) -/
  | ldxZpy (z : Byte)
  /-- 0xBE LDX abs,Y (R201) -/
  | ldxAbsy (w : Word)
  /-- 0xA0 LDY #imm (R202) -/
  | ldyImm (b : Byte)
  /-- 0xA4 LDY zp (R202) -/
  | ldyZp (z : Byte)
  /-- 0xAC LDY abs (R202) -/
  | ldyAbs (w : Word)
  /-- 0xB4 LDY zp,X (R202) -/
  | ldyZpx (z : Byte)
  /-- 0xBC LDY abs,X (R202) -/
  | ldyAbsx (w : Word)
  /-- 0x81 STA (zp,X) (R203) -/
  | staIzx (z : Byte)
  /-- 0x85 STA zp (R203) -/
  | staZp (z : Byte)
  /-- 0x8D STA abs (R203) -/
  | staAbs (w : Word)
  /-- 0x91 STA (zp),Y (R203) -/
  | staIzy (z : Byte)
  /-- 0x95 STA zp,X (R203) -/
  | staZpx (z : Byte)
  /-- 0x99 STA abs,Y (R203) -/
  | staAbsy (w : Word)
  /-- 0x9D STA abs,X (R203) -/
  | staAbsx (w : Word)
  /-- 0x86 STX zp (R204) -/
  | stxZp (z : Byte)
  /-- 0x8E STX abs (R204) -/
  | stxAbs (w : Word)
  /-- 0x96 STX zp,Y (R204) -/
  | stxZpy (z : Byte)
  /-- 0x84 STY zp (R205) -/
  | styZp (z : Byte)
  /-- 0x8C STY abs (R205) -/
  | styAbs (w : Word)
  /-- 0x94 STY zp,X (R205) -/
  | styZpx (z : Byte)
  /-- 0x61 ADC (zp,X) (R240) -/
  | adcIzx (z : Byte)
  /-- 0x65 ADC zp (R240) -/
  | adcZp (z : Byte)
  /-- 0x69 ADC #imm (R240) -/
  | adcImm (b : Byte)
  /-- 0x6D ADC abs (R240) -/
  | adcAbs (w : Word)
  /-- 0x71 ADC (zp),Y (R240) -/
  | adcIzy (z : Byte)
  /-- 0x75 ADC zp,X (R240) -/
  | adcZpx (z : Byte)
  /-- 0x79 ADC abs,Y (R240) -/
  | adcAbsy (w : Word)
  /-- 0x7D ADC abs,X (R240) -/
  | adcAbsx (w : Word)
  /-- 0xE1 SBC (zp,X) (R241) -/
  | sbcIzx (z : Byte)
  /-- 0xE5 SBC zp (R241) -/
  | sbcZp (z : Byte)
  /-- 0xE9 SBC #imm (R241) -/
  | sbcImm (b : Byte)
  /-- 0xED SBC abs (R241) -/
  | sbcAbs (w : Word)
  /-- 0xF1 SBC (zp),Y (R241) -/
  | sbcIzy (z : Byte)
  /-- 0xF5 SBC zp,X (R241) -/
  | sbcZpx (z : Byte)
  /-- 0xF9 SBC abs,Y (R241) -/
  | sbcAbsy (w : Word)
  /-- 0xFD SBC abs,X (R241) -/
  | sbcAbsx (w : Word)
  /-- 0x21 AND (zp,X) (R242) -/
  | andIzx (z : Byte)
  /-- 0x25 AND zp (R242) -/
  | andZp (z : Byte)
  /-- 0x29 AND #imm (R242) -/
  | andImm (b : Byte)
  /-- 0x2D AND abs (R242) -/
  | andAbs (w : Word)
  /-- 0x31 AND (zp),Y (R242) -/
  | andIzy (z : Byte)
  /-- 0x35 AND zp,X (R242) -/
  | andZpx (z : Byte)
  /-- 0x39 AND abs,Y (R242) -/
  | andAbsy (w : Word)
  /-- 0x3D AND abs,X (R242) -/
  | andAbsx (w : Word)
  /-- 0x01 ORA (zp,X) (R243) -/
  | oraIzx (z : Byte)
  /-- 0x05 ORA zp (R243) -/
  | oraZp (z : Byte)
  /-- 0x09 ORA #imm (R243) -/
  | oraImm (b : Byte)
  /-- 0x0D ORA abs (R243) -/
  | oraAbs (w : Word)
  /-- 0x11 ORA (zp),Y (R243) -/
  | oraIzy (z : Byte)
  /-- 0x15 ORA zp,X (R243) -/
  | oraZpx (z : Byte)
  /-- 0x19 ORA abs,Y (R243) -/
  | oraAbsy (w : Word)
  /-- 0x1D ORA abs,X (R243) -/
  | oraAbsx (w : Word)
  /-- 0x41 EOR (zp,X) (R244) -/
  | eorIzx (z : Byte)
  /-- 0x45 EOR zp (R244) -/
  | eorZp (z : Byte)
  /-- 0x49 EOR #imm (R244) -/
  | eorImm (b : Byte)
  /-- 0x4D EOR abs (R244) -/
  | eorAbs (w : Word)
  /-- 0x51 EOR (zp),Y (R244) -/
  | eorIzy (z : Byte)
  /-- 0x55 EOR zp,X (R244) -/
  | eorZpx (z : Byte)
  /-- 0x59 EOR abs,Y (R244) -/
  | eorAbsy (w : Word)
  /-- 0x5D EOR abs,X (R244) -/
  | eorAbsx (w : Word)
  /-- 0xC1 CMP (zp,X) (R245) -/
  | cmpIzx (z : Byte)
  /-- 0xC5 CMP zp (R245) -/
  | cmpZp (z : Byte)
  /-- 0xC9 CMP #imm (R245) -/
  | cmpImm (b : Byte)
  /-- 0xCD CMP abs (R245) -/
  | cmpAbs (w : Word)
  /-- 0xD1 CMP (zp),Y (R245) -/
  | cmpIzy (z : Byte)
  /-- 0xD5 CMP zp,X (R245) -/
  | cmpZpx (z : Byte)
  /-- 0xD9 CMP abs,Y (R245) -/
  | cmpAbsy (w : Word)
  /-- 0xDD CMP abs,X (R245) -/
  | cmpAbsx (w : Word)
  /-- 0xE0 CPX #imm (R246) -/
  | cpxImm (b : Byte)
  /-- 0xE4 CPX zp (R246) -/
  | cpxZp (z : Byte)
  /-- 0xEC CPX abs (R246) -/
  | cpxAbs (w : Word)
  /-- 0xC0 CPY #imm (R247) -/
  | cpyImm (b : Byte)
  /-- 0xC4 CPY zp (R247) -/
  | cpyZp (z : Byte)
  /-- 0xCC CPY abs (R247) -/
  | cpyAbs (w : Word)
  /-- 0x24 BIT zp (R248) -/
  | bitZp (z : Byte)
  /-- 0x2C BIT abs (R248) -/
  | bitAbs (w : Word)
  /-- 0xE6 INC zp (R249) -/
  | incZp (z : Byte)
  /-- 0xEE INC abs (R249) -/
  | incAbs (w : Word)
  /-- 0xF6 INC zp,X (R249) -/
  | incZpx (z : Byte)
  /-- 0xFE INC abs,X (R249) -/
  | incAbsx (w : Word)
  /-- 0xC6 DEC zp (R250) -/
  | decZp (z : Byte)
  /-- 0xCE DEC abs (R250) -/
  | decAbs (w : Word)
  /-- 0xD6 DEC zp,X (R250) -/
  | decZpx (z : Byte)
  /-- 0xDE DEC abs,X (R250) -/
  | decAbsx (w : Word)
  /-- 0x06 ASL zp (R280) -/
  | aslZp (z : Byte)
  /-- 0x0E ASL abs (R280) -/
  | aslAbs (w : Word)
  /-- 0x16 ASL zp,X (R280) -/
  | aslZpx (z : Byte)
  /-- 0x1E ASL abs,X (R280) -/
  | aslAbsx (w : Word)
  /-- 0x46 LSR zp (R281) -/
  | lsrZp (z : Byte)
  /-- 0x4E LSR abs (R281) -/
  | lsrAbs (w : Word)
  /-- 0x56 LSR zp,X (R281) -/
  | lsrZpx (z : Byte)
  /-- 0x5E LSR abs,X (R281) -/
  | lsrAbsx (w : Word)
  /-- 0x26 ROL zp (R282) -/
  | rolZp (z : Byte)
  /-- 0x2E ROL abs (R282) -/
  | rolAbs (w : Word)
  /-- 0x36 ROL zp,X (R282) -/
  | rolZpx (z : Byte)
  /-- 0x3E ROL abs,X (R282) -/
  | rolAbsx (w : Word)
  /-- 0x66 ROR zp (R283) -/
  | rorZp (z : Byte)
  /-- 0x6E ROR abs (R283) -/
  | rorAbs (w : Word)
  /-- 0x76 ROR zp,X (R283) -/
  | rorZpx (z : Byte)
  /-- 0x7E ROR abs,X (R283) -/
  | rorAbsx (w : Word)
  /-- 0x4C JMP abs (R290) -/
  | jmpAbs (w : Word)
  /-- 0x6C JMP (abs) (R290) -/
  | jmpInd (w : Word)
  /-- 0x20 JSR abs (R291) -/
  | jsr (w : Word)
  /-- 0x90 BCC rel (R295) -/
  | bcc (r : Byte)
  /-- 0xB0 BCS rel (R296) -/
  | bcs (r : Byte)
  /-- 0xF0 BEQ rel (R297) -/
  | beq (r : Byte)
  /-- 0xD0 BNE rel (R298) -/
  | bne (r : Byte)
  /-- 0x30 BMI rel (R299) -/
  | bmi (r : Byte)
  /-- 0x10 BPL rel (R300) -/
  | bpl (r : Byte)
  /-- 0x50 BVC rel (R301) -/
  | bvc (r : Byte)
  /-- 0x70 BVS rel (R302) -/
  | bvs (r : Byte)
  /-- 0xA3 LAX (zp,X) (R340) -/
  | laxIzx (z : Byte)
  /-- 0xA7 LAX zp (R340) -/
  | laxZp (z : Byte)
  /-- 0xAF LAX abs (R340) -/
  | laxAbs (w : Word)
  /-- 0xB3 LAX (zp),Y (R340) -/
  | laxIzy (z : Byte)
  /-- 0xB7 LAX zp,Y (R340) -/
  | laxZpy (z : Byte)
  /-- 0xBF LAX abs,Y (R340) -/
  | laxAbsy (w : Word)
  /-- 0x83 SAX (zp,X) (R341) -/
  | saxIzx (z : Byte)
  /-- 0x87 SAX zp (R341) -/
  | saxZp (z : Byte)
  /-- 0x8F SAX abs (R341) -/
  | saxAbs (w : Word)
  /-- 0x97 SAX zp,Y (R341) -/
  | saxZpy (z : Byte)
  /-- 0xC3 DCP (zp,X) (R342) -/
  | dcpIzx (z : Byte)
  /-- 0xC7 DCP zp (R342) -/
  | dcpZp (z : Byte)
  /-- 0xCF DCP abs (R342) -/
  | dcpAbs (w : Word)
  /-- 0xD3 DCP (zp),Y (R342) -/
  | dcpIzy (z : Byte)
  /-- 0xD7 DCP zp,X (R342) -/
  | dcpZpx (z : Byte)
  /-- 0xDB DCP abs,Y (R342) -/
  | dcpAbsy (w : Word)
  /-- 0xDF DCP abs,X (R342) -/
  | dcpAbsx (w : Word)
  /-- 0xE3 ISB (zp,X) (R343) -/
  | isbIzx (z : Byte)
  /-- 0xE7 ISB zp (R343) -/
  | isbZp (z : Byte)
  /-- 0xEF ISB abs (R343) -/
  | isbAbs (w : Word)
  /-- 0xF3 ISB (zp),Y (R343) -/
  | isbIzy (z : Byte)
  /-- 0xF7 ISB zp,X (R343) -/
  | isbZpx (z : Byte)
  /-- 0xFB ISB abs,Y (R343) -/
  | isbAbsy (w : Word)
  /-- 0xFF ISB abs,X (R343) -/
  | isbAbsx (w : Word)
  /-- 0x03 SLO (zp,X) (R344) -/
  | sloIzx (z : Byte)
  /-- 0x07 SLO zp (R344) -/
  | sloZp (z : Byte)
  /-- 0x0F SLO abs (R344) -/
  | sloAbs (w : Word)
  /-- 0x13 SLO (zp),Y (R344) -/
  | sloIzy (z : Byte)
  /-- 0x17 SLO zp,X (R344) -/
  | sloZpx (z : Byte)
  /-- 0x1B SLO abs,Y (R344) -/
  | sloAbsy (w : Word)
  /-- 0x1F SLO abs,X (R344) -/
  | sloAbsx (w : Word)
  /-- 0x23 RLA (zp,X) (R345) -/
  | rlaIzx (z : Byte)
  /-- 0x27 RLA zp (R345) -/
  | rlaZp (z : Byte)
  /-- 0x2F RLA abs (R345) -/
  | rlaAbs (w : Word)
  /-- 0x33 RLA (zp),Y (R345) -/
  | rlaIzy (z : Byte)
  /-- 0x37 RLA zp,X (R345) -/
  | rlaZpx (z : Byte)
  /-- 0x3B RLA abs,Y (R345) -/
  | rlaAbsy (w : Word)
  /-- 0x3F RLA abs,X (R345) -/
  | rlaAbsx (w : Word)
  /-- 0x43 SRE (zp,X) (R346) -/
  | sreIzx (z : Byte)
  /-- 0x47 SRE zp (R346) -/
  | sreZp (z : Byte)
  /-- 0x4F SRE abs (R346) -/
  | sreAbs (w : Word)
  /-- 0x53 SRE (zp),Y (R346) -/
  | sreIzy (z : Byte)
  /-- 0x57 SRE zp,X (R346) -/
  | sreZpx (z : Byte)
  /-- 0x5B SRE abs,Y (R346) -/
  | sreAbsy (w : Word)
  /-- 0x5F SRE abs,X (R346) -/
  | sreAbsx (w : Word)
  /-- 0x63 RRA (zp,X) (R347) -/
  | rraIzx (z : Byte)
  /-- 0x67 RRA zp (R347) -/
  | rraZp (z : Byte)
  /-- 0x6F RRA abs (R347) -/
  | rraAbs (w : Word)
  /-- 0x73 RRA (zp),Y (R347) -/
  | rraIzy (z : Byte)
  /-- 0x77 RRA zp,X (R347) -/
  | rraZpx (z : Byte)
  /-- 0x7B RRA abs,Y (R347) -/
  | rraAbsy (w : Word)
  /-- 0x7F RRA abs,X (R347) -/
  | rraAbsx (w : Word)
  /-- 0xEB SBC #imm (R348) -/
  | sbcImmEB (b : Byte)
  /-- 0x80 NOP #imm (R350) -/
  | nopImm80 (b : Byte)
  /-- 0x82 NOP #imm (R350) -/
  | nopImm82 (b : Byte)
  /-- 0x89 NOP #imm (R350) -/
  | nopImm89 (b : Byte)
  /-- 0xC2 NOP #imm (R350) -/
  | nopImmC2 (b : Byte)
  /-- 0xE2 NOP #imm (R350) -/
  | nopImmE2 (b : Byte)
  /-- 0x04 NOP zp (R351) -/
  | nopZp04 (z : Byte)
  /-- 0x0C NOP abs (R351) -/
  | nopAbs (w : Word)
  /-- 0x14 NOP zp,X (R351) -/
  | nopZpx14 (z : Byte)
  /-- 0x1C NOP abs,X (R351) -/
  | nopAbsx1C (w : Word)
  /-- 0x34 NOP zp,X (R351) -/
  | nopZpx34 (z : Byte)
  /-- 0x3C NOP abs,X (R351) -/
  | nopAbsx3C (w : Word)
  /-- 0x44 NOP zp (R351) -/
  | nopZp44 (z : Byte)
  /-- 0x54 NOP zp,X (R351) -/
  | nopZpx54 (z : Byte)
  /-- 0x5C NOP abs,X (R351) -/
  | nopAbsx5C (w : Word)
  /-- 0x64 NOP zp (R351) -/
  | nopZp64 (z : Byte)
  /-- 0x74 NOP zp,X (R351) -/
  | nopZpx74 (z : Byte)
  /-- 0x7C NOP abs,X (R351) -/
  | nopAbsx7C (w : Word)
  /-- 0xD4 NOP zp,X (R351) -/
  | nopZpxD4 (z : Byte)
  /-- 0xDC NOP abs,X (R351) -/
  | nopAbsxDC (w : Word)
  /-- 0xF4 NOP zp,X (R351) -/
  | nopZpxF4 (z : Byte)
  /-- 0xFC NOP abs,X (R351) -/
  | nopAbsxFC (w : Word)
  /-- 0x0B ANC #imm (R352) -/
  | ancImm0B (b : Byte)
  /-- 0x2B ANC #imm (R352) -/
  | ancImm2B (b : Byte)
  /-- 0x4B ALR #imm (R353) -/
  | alrImm (b : Byte)
  /-- 0x6B ARR #imm (R354) -/
  | arrImm (b : Byte)
  /-- 0xCB SBX #imm (R355) -/
  | sbxImm (b : Byte)
  /-- 0xBB LAS abs,Y (R356) -/
  | lasAbsy (w : Word)
  /-- 0xAA TAX (R220) -/
  | tax
  /-- 0xA8 TAY (R221) -/
  | tay
  /-- 0x8A TXA (R222) -/
  | txa
  /-- 0x98 TYA (R223) -/
  | tya
  /-- 0xBA TSX (R224) -/
  | tsx
  /-- 0x9A TXS (R225) -/
  | txs
  /-- 0x48 PHA (R226) -/
  | pha
  /-- 0x08 PHP (R227) -/
  | php
  /-- 0x68 PLA (R228) -/
  | pla
  /-- 0x28 PLP (R229) -/
  | plp
  /-- 0xE8 INX (R251) -/
  | inx
  /-- 0xC8 INY (R252) -/
  | iny
  /-- 0xCA DEX (R253) -/
  | dex
  /-- 0x88 DEY (R254) -/
  | dey
  /-- 0x0A ASL A (R280) -/
  | aslAcc
  /-- 0x4A LSR A (R281) -/
  | lsrAcc
  /-- 0x2A ROL A (R282) -/
  | rolAcc
  /-- 0x6A ROR A (R283) -/
  | rorAcc
  /-- 0x60 RTS (R292) -/
  | rts
  /-- 0x40 RTI (R293) -/
  | rti
  /-- 0x00 BRK (R303) -/
  | brk
  /-- 0x18 CLC (R320) -/
  | clc
  /-- 0x38 SEC (R321) -/
  | sec
  /-- 0x58 CLI (R322) -/
  | cli
  /-- 0x78 SEI (R323) -/
  | sei
  /-- 0xB8 CLV (R324) -/
  | clv
  /-- 0xD8 CLD (R325) -/
  | cld
  /-- 0xF8 SED (R326) -/
  | sed
  /-- 0xEA NOP (R327) -/
  | nop
  /-- 0x1A NOP (R349) -/
  | nop1A
  /-- 0x3A NOP (R349) -/
  | nop3A
  /-- 0x5A NOP (R349) -/
  | nop5A
  /-- 0x7A NOP (R349) -/
  | nop7A
  /-- 0xDA NOP (R349) -/
  | nopDA
  /-- 0xFA NOP (R349) -/
  | nopFA
  /-- 0x02 JAM (R357) -/
  | jam02
  /-- 0x12 JAM (R357) -/
  | jam12
  /-- 0x22 JAM (R357) -/
  | jam22
  /-- 0x32 JAM (R357) -/
  | jam32
  /-- 0x42 JAM (R357) -/
  | jam42
  /-- 0x52 JAM (R357) -/
  | jam52
  /-- 0x62 JAM (R357) -/
  | jam62
  /-- 0x72 JAM (R357) -/
  | jam72
  /-- 0x8B ANE (R357) -/
  | ane
  /-- 0x92 JAM (R357) -/
  | jam92
  /-- 0x93 SHA (R357) -/
  | sha93
  /-- 0x9B TAS (R357) -/
  | tas
  /-- 0x9C SHY (R357) -/
  | shy
  /-- 0x9E SHX (R357) -/
  | shx
  /-- 0x9F SHA (R357) -/
  | sha9F
  /-- 0xAB LXA (R357) -/
  | lxa
  /-- 0xB2 JAM (R357) -/
  | jamB2
  /-- 0xD2 JAM (R357) -/
  | jamD2
  /-- 0xF2 JAM (R357) -/
  | jamF2
deriving DecidableEq, Repr

/-- The operation kind of an instruction: the mnemonic of its row. -/
def Instr.kind : Instr → Kind
  | .ldaIzx _ | .ldaZp _ | .ldaImm _ | .ldaAbs _ | .ldaIzy _ | .ldaZpx _ | .ldaAbsy _ | .ldaAbsx _ => .lda
  | .ldxImm _ | .ldxZp _ | .ldxAbs _ | .ldxZpy _ | .ldxAbsy _ => .ldx
  | .ldyImm _ | .ldyZp _ | .ldyAbs _ | .ldyZpx _ | .ldyAbsx _ => .ldy
  | .staIzx _ | .staZp _ | .staAbs _ | .staIzy _ | .staZpx _ | .staAbsy _ | .staAbsx _ => .sta
  | .stxZp _ | .stxAbs _ | .stxZpy _ => .stx
  | .styZp _ | .styAbs _ | .styZpx _ => .sty
  | .tax => .tax
  | .tay => .tay
  | .txa => .txa
  | .tya => .tya
  | .tsx => .tsx
  | .txs => .txs
  | .pha => .pha
  | .php => .php
  | .pla => .pla
  | .plp => .plp
  | .adcIzx _ | .adcZp _ | .adcImm _ | .adcAbs _ | .adcIzy _ | .adcZpx _ | .adcAbsy _ | .adcAbsx _ => .adc
  | .sbcIzx _ | .sbcZp _ | .sbcImm _ | .sbcImmEB _ | .sbcAbs _ | .sbcIzy _ | .sbcZpx _ | .sbcAbsy _
  | .sbcAbsx _ => .sbc
  | .andIzx _ | .andZp _ | .andImm _ | .andAbs _ | .andIzy _ | .andZpx _ | .andAbsy _ | .andAbsx _ => .and
  | .oraIzx _ | .oraZp _ | .oraImm _ | .oraAbs _ | .oraIzy _ | .oraZpx _ | .oraAbsy _ | .oraAbsx _ => .ora
  | .eorIzx _ | .eorZp _ | .eorImm _ | .eorAbs _ | .eorIzy _ | .eorZpx _ | .eorAbsy _ | .eorAbsx _ => .eor
  | .cmpIzx _ | .cmpZp _ | .cmpImm _ | .cmpAbs _ | .cmpIzy _ | .cmpZpx _ | .cmpAbsy _ | .cmpAbsx _ => .cmp
  | .cpxImm _ | .cpxZp _ | .cpxAbs _ => .cpx
  | .cpyImm _ | .cpyZp _ | .cpyAbs _ => .cpy
  | .bitZp _ | .bitAbs _ => .bit
  | .incZp _ | .incAbs _ | .incZpx _ | .incAbsx _ => .inc
  | .decZp _ | .decAbs _ | .decZpx _ | .decAbsx _ => .dec
  | .inx => .inx
  | .iny => .iny
  | .dex => .dex
  | .dey => .dey
  | .aslZp _ | .aslAcc | .aslAbs _ | .aslZpx _ | .aslAbsx _ => .asl
  | .lsrZp _ | .lsrAcc | .lsrAbs _ | .lsrZpx _ | .lsrAbsx _ => .lsr
  | .rolZp _ | .rolAcc | .rolAbs _ | .rolZpx _ | .rolAbsx _ => .rol
  | .rorZp _ | .rorAcc | .rorAbs _ | .rorZpx _ | .rorAbsx _ => .ror
  | .jmpAbs _ | .jmpInd _ => .jmp
  | .jsr _ => .jsr
  | .rts => .rts
  | .rti => .rti
  | .bcc _ => .bcc
  | .bcs _ => .bcs
  | .beq _ => .beq
  | .bne _ => .bne
  | .bmi _ => .bmi
  | .bpl _ => .bpl
  | .bvc _ => .bvc
  | .bvs _ => .bvs
  | .brk => .brk
  | .clc => .clc
  | .sec => .sec
  | .cli => .cli
  | .sei => .sei
  | .clv => .clv
  | .cld => .cld
  | .sed => .sed
  | .nopZp04 _ | .nopAbs _ | .nopZpx14 _ | .nop1A | .nopAbsx1C _ | .nopZpx34 _ | .nop3A | .nopAbsx3C _
  | .nopZp44 _ | .nopZpx54 _ | .nop5A | .nopAbsx5C _ | .nopZp64 _ | .nopZpx74 _ | .nop7A | .nopAbsx7C _
  | .nopImm80 _ | .nopImm82 _ | .nopImm89 _ | .nopImmC2 _ | .nopZpxD4 _ | .nopDA | .nopAbsxDC _ | .nopImmE2 _
  | .nop | .nopZpxF4 _ | .nopFA | .nopAbsxFC _ => .nop
  | .laxIzx _ | .laxZp _ | .laxAbs _ | .laxIzy _ | .laxZpy _ | .laxAbsy _ => .lax
  | .saxIzx _ | .saxZp _ | .saxAbs _ | .saxZpy _ => .sax
  | .dcpIzx _ | .dcpZp _ | .dcpAbs _ | .dcpIzy _ | .dcpZpx _ | .dcpAbsy _ | .dcpAbsx _ => .dcp
  | .isbIzx _ | .isbZp _ | .isbAbs _ | .isbIzy _ | .isbZpx _ | .isbAbsy _ | .isbAbsx _ => .isb
  | .sloIzx _ | .sloZp _ | .sloAbs _ | .sloIzy _ | .sloZpx _ | .sloAbsy _ | .sloAbsx _ => .slo
  | .rlaIzx _ | .rlaZp _ | .rlaAbs _ | .rlaIzy _ | .rlaZpx _ | .rlaAbsy _ | .rlaAbsx _ => .rla
  | .sreIzx _ | .sreZp _ | .sreAbs _ | .sreIzy _ | .sreZpx _ | .sreAbsy _ | .sreAbsx _ => .sre
  | .rraIzx _ | .rraZp _ | .rraAbs _ | .rraIzy _ | .rraZpx _ | .rraAbsy _ | .rraAbsx _ => .rra
  | .ancImm0B _ | .ancImm2B _ => .anc
  | .alrImm _ => .alr
  | .arrImm _ => .arr
  | .sbxImm _ => .sbx
  | .lasAbsy _ => .las
  | .jam02 | .jam12 | .jam22 | .jam32 | .jam42 | .jam52 | .jam62 | .jam72 | .jam92 | .jamB2 | .jamD2 | .jamF2 => .jam
  | .ane => .ane
  | .sha93 | .sha9F => .sha
  | .tas => .tas
  | .shy => .shy
  | .shx => .shx
  | .lxa => .lxa

end Sys2Proof
end

