-- ==== Sys2Proof/WellFormed.lean ====
section
/-! DEFINITION. Which instruction terms are well-formed. Every operand field has exactly the width its encoding gives it
(R151), so no field can be out of range; what can be wrong with a term is that its opcode has no table entry
(spec/30_encoding.md R168 to R170). `Instr.wellFormed` is that check, with one named part for each reason. -/

namespace Sys2Proof

/-- The kinds whose table entry is always the unknown marker (R170): JAM and the seven unstable opcodes. -/
def Kind.alwaysUnknown : Kind → Bool
  | .jam | .ane | .lxa | .sha | .shx | .shy | .tas => true
  | .lda | .ldx | .ldy | .sta | .stx | .sty | .tax | .tay | .txa | .tya | .tsx | .txs | .pha | .php | .pla | .plp
  | .adc | .sbc | .and | .ora | .eor | .cmp | .cpx | .cpy | .bit | .inc | .dec | .inx | .iny | .dex | .dey
  | .asl | .lsr | .rol | .ror | .jmp | .jsr | .rts | .rti | .bcc | .bcs | .beq | .bne | .bmi | .bpl | .bvc | .bvs | .brk
  | .clc | .sec | .cli | .sei | .clv | .cld | .sed | .nop
  | .lax | .sax | .dcp | .isb | .slo | .rla | .sre | .rra | .anc | .alr | .arr | .sbx | .las => false

/-- The kinds of the optional group (R169), whose entries need EXTRA_UNOFFICIAL = true. -/
def Kind.optional : Kind → Bool
  | .anc | .alr | .arr | .sbx | .las => true
  | .lda | .ldx | .ldy | .sta | .stx | .sty | .tax | .tay | .txa | .tya | .tsx | .txs | .pha | .php | .pla | .plp
  | .adc | .sbc | .and | .ora | .eor | .cmp | .cpx | .cpy | .bit | .inc | .dec | .inx | .iny | .dex | .dey
  | .asl | .lsr | .rol | .ror | .jmp | .jsr | .rts | .rti | .bcc | .bcs | .beq | .bne | .bmi | .bpl | .bvc | .bvs | .brk
  | .clc | .sec | .cli | .sei | .clv | .cld | .sed | .nop
  | .lax | .sax | .dcp | .isb | .slo | .rla | .sre | .rra | .jam | .ane | .lxa | .sha | .shx | .shy | .tas => false

/-- An instruction is well-formed when its opcode has a table entry (R168, R169): its kind is none of those that are
always the unknown marker, and an optional kind needs EXTRA_UNOFFICIAL. -/
def Instr.wellFormed (extraUnofficial : Bool) (i : Instr) : Bool :=
  !i.kind.alwaysUnknown && (!i.kind.optional || extraUnofficial)

end Sys2Proof
end

