-- ==== Sys2Proof/Decode.lean ====
section
/-! DEFINITION. The byte-order helpers, the 256-entry instruction table (spec/00_scope.md R11, spec/30_encoding.md R167,
R172; the cycle and length columns are those of spec/opcode_table.json), the decoder over any list of bytes, and the
encoder written from the same table. -/

namespace Sys2Proof

/-- `(hi << 8) | lo` (R14): the 16-bit value assembled from two bytes. -/
def joinBytes (hi lo : Byte) : Word := hi ++ lo

/-- Bits 15..8 of a 16-bit value. -/
def hiByte (w : Word) : Byte := w.extractLsb' 8 8

/-- Bits 7..0 of a 16-bit value. -/
def loByte (w : Word) : Byte := w.extractLsb' 0 8

/-- `zext_16` of R14. -/
def zeroExtend16 (b : Byte) : Word := b.setWidth 16

/-- `sext_16` of R14: a byte read as a number in -128..127. -/
def signExtend16 (b : Byte) : Word := b.signExtend 16

/-- What follows the opcode byte, and the instruction it makes (R151): nothing, one operand byte, or two operand bytes,
low byte first. -/
inductive Form where
  | bare (i : Instr)
  | byte (f : Byte → Instr)
  | word (f : Word → Instr)

/-- One entry of the instruction table (R11): operation kind, addressing mode, byte length and base cycle cost, with the
operation class (R171) and the group (R167), and the form of the bytes after the opcode. -/
structure Entry where
  form   : Form
  kind   : Kind
  mode   : Mode
  length : Nat
  cycles : Nat
  cls    : AccessClass
  group  : Group

/-- The table entries of the opcodes 0x00 to 0x0F. -/
def opcodePage0 : Vector Entry 16 := #v[
  ⟨.bare .brk, .brk, .imp, 2, 7, .none, .official⟩,
  ⟨.byte .oraIzx, .ora, .izx, 2, 6, .read, .official⟩,
  ⟨.bare .jam02, .jam, .unknown, 1, 0, .none, .unknown⟩,
  ⟨.byte .sloIzx, .slo, .izx, 2, 8, .rmw, .unofficial⟩,
  ⟨.byte .nopZp04, .nop, .zp, 2, 3, .read, .unofficial⟩,
  ⟨.byte .oraZp, .ora, .zp, 2, 3, .read, .official⟩,
  ⟨.byte .aslZp, .asl, .zp, 2, 5, .rmw, .official⟩,
  ⟨.byte .sloZp, .slo, .zp, 2, 5, .rmw, .unofficial⟩,
  ⟨.bare .php, .php, .imp, 1, 3, .none, .official⟩,
  ⟨.byte .oraImm, .ora, .imm, 2, 2, .none, .official⟩,
  ⟨.bare .aslAcc, .asl, .acc, 1, 2, .none, .official⟩,
  ⟨.byte .ancImm0B, .anc, .imm, 2, 2, .none, .optional⟩,
  ⟨.word .nopAbs, .nop, .abs, 3, 4, .read, .unofficial⟩,
  ⟨.word .oraAbs, .ora, .abs, 3, 4, .read, .official⟩,
  ⟨.word .aslAbs, .asl, .abs, 3, 6, .rmw, .official⟩,
  ⟨.word .sloAbs, .slo, .abs, 3, 6, .rmw, .unofficial⟩]

/-- The table entries of the opcodes 0x10 to 0x1F. -/
def opcodePage1 : Vector Entry 16 := #v[
  ⟨.byte .bpl, .bpl, .rel, 2, 2, .none, .official⟩,
  ⟨.byte .oraIzy, .ora, .izy, 2, 5, .read, .official⟩,
  ⟨.bare .jam12, .jam, .unknown, 1, 0, .none, .unknown⟩,
  ⟨.byte .sloIzy, .slo, .izy, 2, 8, .rmw, .unofficial⟩,
  ⟨.byte .nopZpx14, .nop, .zpx, 2, 4, .read, .unofficial⟩,
  ⟨.byte .oraZpx, .ora, .zpx, 2, 4, .read, .official⟩,
  ⟨.byte .aslZpx, .asl, .zpx, 2, 6, .rmw, .official⟩,
  ⟨.byte .sloZpx, .slo, .zpx, 2, 6, .rmw, .unofficial⟩,
  ⟨.bare .clc, .clc, .imp, 1, 2, .none, .official⟩,
  ⟨.word .oraAbsy, .ora, .absy, 3, 4, .read, .official⟩,
  ⟨.bare .nop1A, .nop, .imp, 1, 2, .none, .unofficial⟩,
  ⟨.word .sloAbsy, .slo, .absy, 3, 7, .rmw, .unofficial⟩,
  ⟨.word .nopAbsx1C, .nop, .absx, 3, 4, .read, .unofficial⟩,
  ⟨.word .oraAbsx, .ora, .absx, 3, 4, .read, .official⟩,
  ⟨.word .aslAbsx, .asl, .absx, 3, 7, .rmw, .official⟩,
  ⟨.word .sloAbsx, .slo, .absx, 3, 7, .rmw, .unofficial⟩]

/-- The table entries of the opcodes 0x20 to 0x2F. -/
def opcodePage2 : Vector Entry 16 := #v[
  ⟨.word .jsr, .jsr, .abs, 3, 6, .none, .official⟩,
  ⟨.byte .andIzx, .and, .izx, 2, 6, .read, .official⟩,
  ⟨.bare .jam22, .jam, .unknown, 1, 0, .none, .unknown⟩,
  ⟨.byte .rlaIzx, .rla, .izx, 2, 8, .rmw, .unofficial⟩,
  ⟨.byte .bitZp, .bit, .zp, 2, 3, .read, .official⟩,
  ⟨.byte .andZp, .and, .zp, 2, 3, .read, .official⟩,
  ⟨.byte .rolZp, .rol, .zp, 2, 5, .rmw, .official⟩,
  ⟨.byte .rlaZp, .rla, .zp, 2, 5, .rmw, .unofficial⟩,
  ⟨.bare .plp, .plp, .imp, 1, 4, .none, .official⟩,
  ⟨.byte .andImm, .and, .imm, 2, 2, .none, .official⟩,
  ⟨.bare .rolAcc, .rol, .acc, 1, 2, .none, .official⟩,
  ⟨.byte .ancImm2B, .anc, .imm, 2, 2, .none, .optional⟩,
  ⟨.word .bitAbs, .bit, .abs, 3, 4, .read, .official⟩,
  ⟨.word .andAbs, .and, .abs, 3, 4, .read, .official⟩,
  ⟨.word .rolAbs, .rol, .abs, 3, 6, .rmw, .official⟩,
  ⟨.word .rlaAbs, .rla, .abs, 3, 6, .rmw, .unofficial⟩]

/-- The table entries of the opcodes 0x30 to 0x3F. -/
def opcodePage3 : Vector Entry 16 := #v[
  ⟨.byte .bmi, .bmi, .rel, 2, 2, .none, .official⟩,
  ⟨.byte .andIzy, .and, .izy, 2, 5, .read, .official⟩,
  ⟨.bare .jam32, .jam, .unknown, 1, 0, .none, .unknown⟩,
  ⟨.byte .rlaIzy, .rla, .izy, 2, 8, .rmw, .unofficial⟩,
  ⟨.byte .nopZpx34, .nop, .zpx, 2, 4, .read, .unofficial⟩,
  ⟨.byte .andZpx, .and, .zpx, 2, 4, .read, .official⟩,
  ⟨.byte .rolZpx, .rol, .zpx, 2, 6, .rmw, .official⟩,
  ⟨.byte .rlaZpx, .rla, .zpx, 2, 6, .rmw, .unofficial⟩,
  ⟨.bare .sec, .sec, .imp, 1, 2, .none, .official⟩,
  ⟨.word .andAbsy, .and, .absy, 3, 4, .read, .official⟩,
  ⟨.bare .nop3A, .nop, .imp, 1, 2, .none, .unofficial⟩,
  ⟨.word .rlaAbsy, .rla, .absy, 3, 7, .rmw, .unofficial⟩,
  ⟨.word .nopAbsx3C, .nop, .absx, 3, 4, .read, .unofficial⟩,
  ⟨.word .andAbsx, .and, .absx, 3, 4, .read, .official⟩,
  ⟨.word .rolAbsx, .rol, .absx, 3, 7, .rmw, .official⟩,
  ⟨.word .rlaAbsx, .rla, .absx, 3, 7, .rmw, .unofficial⟩]

/-- The table entries of the opcodes 0x40 to 0x4F. -/
def opcodePage4 : Vector Entry 16 := #v[
  ⟨.bare .rti, .rti, .imp, 1, 6, .none, .official⟩,
  ⟨.byte .eorIzx, .eor, .izx, 2, 6, .read, .official⟩,
  ⟨.bare .jam42, .jam, .unknown, 1, 0, .none, .unknown⟩,
  ⟨.byte .sreIzx, .sre, .izx, 2, 8, .rmw, .unofficial⟩,
  ⟨.byte .nopZp44, .nop, .zp, 2, 3, .read, .unofficial⟩,
  ⟨.byte .eorZp, .eor, .zp, 2, 3, .read, .official⟩,
  ⟨.byte .lsrZp, .lsr, .zp, 2, 5, .rmw, .official⟩,
  ⟨.byte .sreZp, .sre, .zp, 2, 5, .rmw, .unofficial⟩,
  ⟨.bare .pha, .pha, .imp, 1, 3, .none, .official⟩,
  ⟨.byte .eorImm, .eor, .imm, 2, 2, .none, .official⟩,
  ⟨.bare .lsrAcc, .lsr, .acc, 1, 2, .none, .official⟩,
  ⟨.byte .alrImm, .alr, .imm, 2, 2, .none, .optional⟩,
  ⟨.word .jmpAbs, .jmp, .abs, 3, 3, .none, .official⟩,
  ⟨.word .eorAbs, .eor, .abs, 3, 4, .read, .official⟩,
  ⟨.word .lsrAbs, .lsr, .abs, 3, 6, .rmw, .official⟩,
  ⟨.word .sreAbs, .sre, .abs, 3, 6, .rmw, .unofficial⟩]

/-- The table entries of the opcodes 0x50 to 0x5F. -/
def opcodePage5 : Vector Entry 16 := #v[
  ⟨.byte .bvc, .bvc, .rel, 2, 2, .none, .official⟩,
  ⟨.byte .eorIzy, .eor, .izy, 2, 5, .read, .official⟩,
  ⟨.bare .jam52, .jam, .unknown, 1, 0, .none, .unknown⟩,
  ⟨.byte .sreIzy, .sre, .izy, 2, 8, .rmw, .unofficial⟩,
  ⟨.byte .nopZpx54, .nop, .zpx, 2, 4, .read, .unofficial⟩,
  ⟨.byte .eorZpx, .eor, .zpx, 2, 4, .read, .official⟩,
  ⟨.byte .lsrZpx, .lsr, .zpx, 2, 6, .rmw, .official⟩,
  ⟨.byte .sreZpx, .sre, .zpx, 2, 6, .rmw, .unofficial⟩,
  ⟨.bare .cli, .cli, .imp, 1, 2, .none, .official⟩,
  ⟨.word .eorAbsy, .eor, .absy, 3, 4, .read, .official⟩,
  ⟨.bare .nop5A, .nop, .imp, 1, 2, .none, .unofficial⟩,
  ⟨.word .sreAbsy, .sre, .absy, 3, 7, .rmw, .unofficial⟩,
  ⟨.word .nopAbsx5C, .nop, .absx, 3, 4, .read, .unofficial⟩,
  ⟨.word .eorAbsx, .eor, .absx, 3, 4, .read, .official⟩,
  ⟨.word .lsrAbsx, .lsr, .absx, 3, 7, .rmw, .official⟩,
  ⟨.word .sreAbsx, .sre, .absx, 3, 7, .rmw, .unofficial⟩]

/-- The table entries of the opcodes 0x60 to 0x6F. -/
def opcodePage6 : Vector Entry 16 := #v[
  ⟨.bare .rts, .rts, .imp, 1, 6, .none, .official⟩,
  ⟨.byte .adcIzx, .adc, .izx, 2, 6, .read, .official⟩,
  ⟨.bare .jam62, .jam, .unknown, 1, 0, .none, .unknown⟩,
  ⟨.byte .rraIzx, .rra, .izx, 2, 8, .rmw, .unofficial⟩,
  ⟨.byte .nopZp64, .nop, .zp, 2, 3, .read, .unofficial⟩,
  ⟨.byte .adcZp, .adc, .zp, 2, 3, .read, .official⟩,
  ⟨.byte .rorZp, .ror, .zp, 2, 5, .rmw, .official⟩,
  ⟨.byte .rraZp, .rra, .zp, 2, 5, .rmw, .unofficial⟩,
  ⟨.bare .pla, .pla, .imp, 1, 4, .none, .official⟩,
  ⟨.byte .adcImm, .adc, .imm, 2, 2, .none, .official⟩,
  ⟨.bare .rorAcc, .ror, .acc, 1, 2, .none, .official⟩,
  ⟨.byte .arrImm, .arr, .imm, 2, 2, .none, .optional⟩,
  ⟨.word .jmpInd, .jmp, .ind, 3, 5, .none, .official⟩,
  ⟨.word .adcAbs, .adc, .abs, 3, 4, .read, .official⟩,
  ⟨.word .rorAbs, .ror, .abs, 3, 6, .rmw, .official⟩,
  ⟨.word .rraAbs, .rra, .abs, 3, 6, .rmw, .unofficial⟩]

/-- The table entries of the opcodes 0x70 to 0x7F. -/
def opcodePage7 : Vector Entry 16 := #v[
  ⟨.byte .bvs, .bvs, .rel, 2, 2, .none, .official⟩,
  ⟨.byte .adcIzy, .adc, .izy, 2, 5, .read, .official⟩,
  ⟨.bare .jam72, .jam, .unknown, 1, 0, .none, .unknown⟩,
  ⟨.byte .rraIzy, .rra, .izy, 2, 8, .rmw, .unofficial⟩,
  ⟨.byte .nopZpx74, .nop, .zpx, 2, 4, .read, .unofficial⟩,
  ⟨.byte .adcZpx, .adc, .zpx, 2, 4, .read, .official⟩,
  ⟨.byte .rorZpx, .ror, .zpx, 2, 6, .rmw, .official⟩,
  ⟨.byte .rraZpx, .rra, .zpx, 2, 6, .rmw, .unofficial⟩,
  ⟨.bare .sei, .sei, .imp, 1, 2, .none, .official⟩,
  ⟨.word .adcAbsy, .adc, .absy, 3, 4, .read, .official⟩,
  ⟨.bare .nop7A, .nop, .imp, 1, 2, .none, .unofficial⟩,
  ⟨.word .rraAbsy, .rra, .absy, 3, 7, .rmw, .unofficial⟩,
  ⟨.word .nopAbsx7C, .nop, .absx, 3, 4, .read, .unofficial⟩,
  ⟨.word .adcAbsx, .adc, .absx, 3, 4, .read, .official⟩,
  ⟨.word .rorAbsx, .ror, .absx, 3, 7, .rmw, .official⟩,
  ⟨.word .rraAbsx, .rra, .absx, 3, 7, .rmw, .unofficial⟩]

/-- The table entries of the opcodes 0x80 to 0x8F. -/
def opcodePage8 : Vector Entry 16 := #v[
  ⟨.byte .nopImm80, .nop, .imm, 2, 2, .none, .unofficial⟩,
  ⟨.byte .staIzx, .sta, .izx, 2, 6, .write, .official⟩,
  ⟨.byte .nopImm82, .nop, .imm, 2, 2, .none, .unofficial⟩,
  ⟨.byte .saxIzx, .sax, .izx, 2, 6, .write, .unofficial⟩,
  ⟨.byte .styZp, .sty, .zp, 2, 3, .write, .official⟩,
  ⟨.byte .staZp, .sta, .zp, 2, 3, .write, .official⟩,
  ⟨.byte .stxZp, .stx, .zp, 2, 3, .write, .official⟩,
  ⟨.byte .saxZp, .sax, .zp, 2, 3, .write, .unofficial⟩,
  ⟨.bare .dey, .dey, .imp, 1, 2, .none, .official⟩,
  ⟨.byte .nopImm89, .nop, .imm, 2, 2, .none, .unofficial⟩,
  ⟨.bare .txa, .txa, .imp, 1, 2, .none, .official⟩,
  ⟨.bare .ane, .ane, .unknown, 1, 0, .none, .unknown⟩,
  ⟨.word .styAbs, .sty, .abs, 3, 4, .write, .official⟩,
  ⟨.word .staAbs, .sta, .abs, 3, 4, .write, .official⟩,
  ⟨.word .stxAbs, .stx, .abs, 3, 4, .write, .official⟩,
  ⟨.word .saxAbs, .sax, .abs, 3, 4, .write, .unofficial⟩]

/-- The table entries of the opcodes 0x90 to 0x9F. -/
def opcodePage9 : Vector Entry 16 := #v[
  ⟨.byte .bcc, .bcc, .rel, 2, 2, .none, .official⟩,
  ⟨.byte .staIzy, .sta, .izy, 2, 6, .write, .official⟩,
  ⟨.bare .jam92, .jam, .unknown, 1, 0, .none, .unknown⟩,
  ⟨.bare .sha93, .sha, .unknown, 1, 0, .none, .unknown⟩,
  ⟨.byte .styZpx, .sty, .zpx, 2, 4, .write, .official⟩,
  ⟨.byte .staZpx, .sta, .zpx, 2, 4, .write, .official⟩,
  ⟨.byte .stxZpy, .stx, .zpy, 2, 4, .write, .official⟩,
  ⟨.byte .saxZpy, .sax, .zpy, 2, 4, .write, .unofficial⟩,
  ⟨.bare .tya, .tya, .imp, 1, 2, .none, .official⟩,
  ⟨.word .staAbsy, .sta, .absy, 3, 5, .write, .official⟩,
  ⟨.bare .txs, .txs, .imp, 1, 2, .none, .official⟩,
  ⟨.bare .tas, .tas, .unknown, 1, 0, .none, .unknown⟩,
  ⟨.bare .shy, .shy, .unknown, 1, 0, .none, .unknown⟩,
  ⟨.word .staAbsx, .sta, .absx, 3, 5, .write, .official⟩,
  ⟨.bare .shx, .shx, .unknown, 1, 0, .none, .unknown⟩,
  ⟨.bare .sha9F, .sha, .unknown, 1, 0, .none, .unknown⟩]

/-- The table entries of the opcodes 0xA0 to 0xAF. -/
def opcodePageA : Vector Entry 16 := #v[
  ⟨.byte .ldyImm, .ldy, .imm, 2, 2, .none, .official⟩,
  ⟨.byte .ldaIzx, .lda, .izx, 2, 6, .read, .official⟩,
  ⟨.byte .ldxImm, .ldx, .imm, 2, 2, .none, .official⟩,
  ⟨.byte .laxIzx, .lax, .izx, 2, 6, .read, .unofficial⟩,
  ⟨.byte .ldyZp, .ldy, .zp, 2, 3, .read, .official⟩,
  ⟨.byte .ldaZp, .lda, .zp, 2, 3, .read, .official⟩,
  ⟨.byte .ldxZp, .ldx, .zp, 2, 3, .read, .official⟩,
  ⟨.byte .laxZp, .lax, .zp, 2, 3, .read, .unofficial⟩,
  ⟨.bare .tay, .tay, .imp, 1, 2, .none, .official⟩,
  ⟨.byte .ldaImm, .lda, .imm, 2, 2, .none, .official⟩,
  ⟨.bare .tax, .tax, .imp, 1, 2, .none, .official⟩,
  ⟨.bare .lxa, .lxa, .unknown, 1, 0, .none, .unknown⟩,
  ⟨.word .ldyAbs, .ldy, .abs, 3, 4, .read, .official⟩,
  ⟨.word .ldaAbs, .lda, .abs, 3, 4, .read, .official⟩,
  ⟨.word .ldxAbs, .ldx, .abs, 3, 4, .read, .official⟩,
  ⟨.word .laxAbs, .lax, .abs, 3, 4, .read, .unofficial⟩]

/-- The table entries of the opcodes 0xB0 to 0xBF. -/
def opcodePageB : Vector Entry 16 := #v[
  ⟨.byte .bcs, .bcs, .rel, 2, 2, .none, .official⟩,
  ⟨.byte .ldaIzy, .lda, .izy, 2, 5, .read, .official⟩,
  ⟨.bare .jamB2, .jam, .unknown, 1, 0, .none, .unknown⟩,
  ⟨.byte .laxIzy, .lax, .izy, 2, 5, .read, .unofficial⟩,
  ⟨.byte .ldyZpx, .ldy, .zpx, 2, 4, .read, .official⟩,
  ⟨.byte .ldaZpx, .lda, .zpx, 2, 4, .read, .official⟩,
  ⟨.byte .ldxZpy, .ldx, .zpy, 2, 4, .read, .official⟩,
  ⟨.byte .laxZpy, .lax, .zpy, 2, 4, .read, .unofficial⟩,
  ⟨.bare .clv, .clv, .imp, 1, 2, .none, .official⟩,
  ⟨.word .ldaAbsy, .lda, .absy, 3, 4, .read, .official⟩,
  ⟨.bare .tsx, .tsx, .imp, 1, 2, .none, .official⟩,
  ⟨.word .lasAbsy, .las, .absy, 3, 4, .read, .optional⟩,
  ⟨.word .ldyAbsx, .ldy, .absx, 3, 4, .read, .official⟩,
  ⟨.word .ldaAbsx, .lda, .absx, 3, 4, .read, .official⟩,
  ⟨.word .ldxAbsy, .ldx, .absy, 3, 4, .read, .official⟩,
  ⟨.word .laxAbsy, .lax, .absy, 3, 4, .read, .unofficial⟩]

/-- The table entries of the opcodes 0xC0 to 0xCF. -/
def opcodePageC : Vector Entry 16 := #v[
  ⟨.byte .cpyImm, .cpy, .imm, 2, 2, .none, .official⟩,
  ⟨.byte .cmpIzx, .cmp, .izx, 2, 6, .read, .official⟩,
  ⟨.byte .nopImmC2, .nop, .imm, 2, 2, .none, .unofficial⟩,
  ⟨.byte .dcpIzx, .dcp, .izx, 2, 8, .rmw, .unofficial⟩,
  ⟨.byte .cpyZp, .cpy, .zp, 2, 3, .read, .official⟩,
  ⟨.byte .cmpZp, .cmp, .zp, 2, 3, .read, .official⟩,
  ⟨.byte .decZp, .dec, .zp, 2, 5, .rmw, .official⟩,
  ⟨.byte .dcpZp, .dcp, .zp, 2, 5, .rmw, .unofficial⟩,
  ⟨.bare .iny, .iny, .imp, 1, 2, .none, .official⟩,
  ⟨.byte .cmpImm, .cmp, .imm, 2, 2, .none, .official⟩,
  ⟨.bare .dex, .dex, .imp, 1, 2, .none, .official⟩,
  ⟨.byte .sbxImm, .sbx, .imm, 2, 2, .none, .optional⟩,
  ⟨.word .cpyAbs, .cpy, .abs, 3, 4, .read, .official⟩,
  ⟨.word .cmpAbs, .cmp, .abs, 3, 4, .read, .official⟩,
  ⟨.word .decAbs, .dec, .abs, 3, 6, .rmw, .official⟩,
  ⟨.word .dcpAbs, .dcp, .abs, 3, 6, .rmw, .unofficial⟩]

/-- The table entries of the opcodes 0xD0 to 0xDF. -/
def opcodePageD : Vector Entry 16 := #v[
  ⟨.byte .bne, .bne, .rel, 2, 2, .none, .official⟩,
  ⟨.byte .cmpIzy, .cmp, .izy, 2, 5, .read, .official⟩,
  ⟨.bare .jamD2, .jam, .unknown, 1, 0, .none, .unknown⟩,
  ⟨.byte .dcpIzy, .dcp, .izy, 2, 8, .rmw, .unofficial⟩,
  ⟨.byte .nopZpxD4, .nop, .zpx, 2, 4, .read, .unofficial⟩,
  ⟨.byte .cmpZpx, .cmp, .zpx, 2, 4, .read, .official⟩,
  ⟨.byte .decZpx, .dec, .zpx, 2, 6, .rmw, .official⟩,
  ⟨.byte .dcpZpx, .dcp, .zpx, 2, 6, .rmw, .unofficial⟩,
  ⟨.bare .cld, .cld, .imp, 1, 2, .none, .official⟩,
  ⟨.word .cmpAbsy, .cmp, .absy, 3, 4, .read, .official⟩,
  ⟨.bare .nopDA, .nop, .imp, 1, 2, .none, .unofficial⟩,
  ⟨.word .dcpAbsy, .dcp, .absy, 3, 7, .rmw, .unofficial⟩,
  ⟨.word .nopAbsxDC, .nop, .absx, 3, 4, .read, .unofficial⟩,
  ⟨.word .cmpAbsx, .cmp, .absx, 3, 4, .read, .official⟩,
  ⟨.word .decAbsx, .dec, .absx, 3, 7, .rmw, .official⟩,
  ⟨.word .dcpAbsx, .dcp, .absx, 3, 7, .rmw, .unofficial⟩]

/-- The table entries of the opcodes 0xE0 to 0xEF. -/
def opcodePageE : Vector Entry 16 := #v[
  ⟨.byte .cpxImm, .cpx, .imm, 2, 2, .none, .official⟩,
  ⟨.byte .sbcIzx, .sbc, .izx, 2, 6, .read, .official⟩,
  ⟨.byte .nopImmE2, .nop, .imm, 2, 2, .none, .unofficial⟩,
  ⟨.byte .isbIzx, .isb, .izx, 2, 8, .rmw, .unofficial⟩,
  ⟨.byte .cpxZp, .cpx, .zp, 2, 3, .read, .official⟩,
  ⟨.byte .sbcZp, .sbc, .zp, 2, 3, .read, .official⟩,
  ⟨.byte .incZp, .inc, .zp, 2, 5, .rmw, .official⟩,
  ⟨.byte .isbZp, .isb, .zp, 2, 5, .rmw, .unofficial⟩,
  ⟨.bare .inx, .inx, .imp, 1, 2, .none, .official⟩,
  ⟨.byte .sbcImm, .sbc, .imm, 2, 2, .none, .official⟩,
  ⟨.bare .nop, .nop, .imp, 1, 2, .none, .official⟩,
  ⟨.byte .sbcImmEB, .sbc, .imm, 2, 2, .none, .unofficial⟩,
  ⟨.word .cpxAbs, .cpx, .abs, 3, 4, .read, .official⟩,
  ⟨.word .sbcAbs, .sbc, .abs, 3, 4, .read, .official⟩,
  ⟨.word .incAbs, .inc, .abs, 3, 6, .rmw, .official⟩,
  ⟨.word .isbAbs, .isb, .abs, 3, 6, .rmw, .unofficial⟩]

/-- The table entries of the opcodes 0xF0 to 0xFF. -/
def opcodePageF : Vector Entry 16 := #v[
  ⟨.byte .beq, .beq, .rel, 2, 2, .none, .official⟩,
  ⟨.byte .sbcIzy, .sbc, .izy, 2, 5, .read, .official⟩,
  ⟨.bare .jamF2, .jam, .unknown, 1, 0, .none, .unknown⟩,
  ⟨.byte .isbIzy, .isb, .izy, 2, 8, .rmw, .unofficial⟩,
  ⟨.byte .nopZpxF4, .nop, .zpx, 2, 4, .read, .unofficial⟩,
  ⟨.byte .sbcZpx, .sbc, .zpx, 2, 4, .read, .official⟩,
  ⟨.byte .incZpx, .inc, .zpx, 2, 6, .rmw, .official⟩,
  ⟨.byte .isbZpx, .isb, .zpx, 2, 6, .rmw, .unofficial⟩,
  ⟨.bare .sed, .sed, .imp, 1, 2, .none, .official⟩,
  ⟨.word .sbcAbsy, .sbc, .absy, 3, 4, .read, .official⟩,
  ⟨.bare .nopFA, .nop, .imp, 1, 2, .none, .unofficial⟩,
  ⟨.word .isbAbsy, .isb, .absy, 3, 7, .rmw, .unofficial⟩,
  ⟨.word .nopAbsxFC, .nop, .absx, 3, 4, .read, .unofficial⟩,
  ⟨.word .sbcAbsx, .sbc, .absx, 3, 4, .read, .official⟩,
  ⟨.word .incAbsx, .inc, .absx, 3, 7, .rmw, .official⟩,
  ⟨.word .isbAbsx, .isb, .absx, 3, 7, .rmw, .unofficial⟩]

/-- The instruction table by high nibble, then low nibble, of the opcode (R167). -/
def opcodePages : Vector (Vector Entry 16) 16 := #v[
  opcodePage0, opcodePage1, opcodePage2, opcodePage3, opcodePage4, opcodePage5, opcodePage6, opcodePage7,
  opcodePage8, opcodePage9, opcodePageA, opcodePageB, opcodePageC, opcodePageD, opcodePageE, opcodePageF]

/-- `TABLE[op]` (R607): total, one entry for each byte (R172). -/
def entryOf (op : Byte) : Entry := (opcodePages[op.toNat / 16])[op.toNat % 16]

/-- How many operand bytes an entry's mode has (R151); BRK's padding byte is not one (R110 item 2). -/
def Entry.operandBytes (e : Entry) : Nat :=
  match e.form with
  | .bare _ => 0
  | .byte _ => 1
  | .word _ => 2

/-- Whether an entry is the unknown marker (R170): always for the group `unknown`, and for the optional group when
EXTRA_UNOFFICIAL is false. -/
def Entry.isMarker (extraUnofficial : Bool) (e : Entry) : Bool :=
  match e.group with
  | .unknown => true
  | .optional => !extraUnofficial
  | .official => false
  | .unofficial => false

/-- The instruction that an opcode and the two bytes after it make; a byte the mode has no use for is ignored. -/
def decodeOpcode (op b1 b2 : Byte) : Instr :=
  match (entryOf op).form with
  | .bare i => i
  | .byte f => f b1
  | .word f => f (joinBytes b2 b1)

/-- Why a list of bytes is no instruction. Every opcode byte has an entry (R172), so only missing bytes are left. -/
inductive DecodeError where
  /-- there is no opcode byte -/
  | noOpcode
  /-- the opcode's operand bytes are not all there -/
  | missingOperand (op : Byte)
deriving DecidableEq, Repr

/-- What the decoder answers: an instruction and the bytes after it, or a rejection by name. -/
inductive Decoded where
  | ok (i : Instr) (rest : List Byte)
  | rejected (why : DecodeError)
deriving DecidableEq, Repr

/-- The bytes of a bare instruction that are skipped unread: BRK's padding byte (length 2 with no operand byte, R150). -/
def Entry.padding (e : Entry) : Nat := e.length - 1 - e.operandBytes

/-- The decoder: total on any list of bytes (R172). -/
def decode : List Byte → Decoded
  | [] => .rejected .noOpcode
  | op :: rest =>
    match (entryOf op).form, rest with
    | .bare i, rest => .ok i (rest.drop (entryOf op).padding)
    | .byte f, b :: rest => .ok (f b) rest
    | .byte _, [] => .rejected (.missingOperand op)
    | .word f, lo :: hi :: rest => .ok (f (joinBytes hi lo)) rest
    | .word _, _ => .rejected (.missingOperand op)

/-- The opcode byte of an instruction (R167). -/
def Instr.opcode : Instr → Byte
  | .brk => 0x00#8
  | .oraIzx _ => 0x01#8
  | .jam02 => 0x02#8
  | .sloIzx _ => 0x03#8
  | .nopZp04 _ => 0x04#8
  | .oraZp _ => 0x05#8
  | .aslZp _ => 0x06#8
  | .sloZp _ => 0x07#8
  | .php => 0x08#8
  | .oraImm _ => 0x09#8
  | .aslAcc => 0x0A#8
  | .ancImm0B _ => 0x0B#8
  | .nopAbs _ => 0x0C#8
  | .oraAbs _ => 0x0D#8
  | .aslAbs _ => 0x0E#8
  | .sloAbs _ => 0x0F#8
  | .bpl _ => 0x10#8
  | .oraIzy _ => 0x11#8
  | .jam12 => 0x12#8
  | .sloIzy _ => 0x13#8
  | .nopZpx14 _ => 0x14#8
  | .oraZpx _ => 0x15#8
  | .aslZpx _ => 0x16#8
  | .sloZpx _ => 0x17#8
  | .clc => 0x18#8
  | .oraAbsy _ => 0x19#8
  | .nop1A => 0x1A#8
  | .sloAbsy _ => 0x1B#8
  | .nopAbsx1C _ => 0x1C#8
  | .oraAbsx _ => 0x1D#8
  | .aslAbsx _ => 0x1E#8
  | .sloAbsx _ => 0x1F#8
  | .jsr _ => 0x20#8
  | .andIzx _ => 0x21#8
  | .jam22 => 0x22#8
  | .rlaIzx _ => 0x23#8
  | .bitZp _ => 0x24#8
  | .andZp _ => 0x25#8
  | .rolZp _ => 0x26#8
  | .rlaZp _ => 0x27#8
  | .plp => 0x28#8
  | .andImm _ => 0x29#8
  | .rolAcc => 0x2A#8
  | .ancImm2B _ => 0x2B#8
  | .bitAbs _ => 0x2C#8
  | .andAbs _ => 0x2D#8
  | .rolAbs _ => 0x2E#8
  | .rlaAbs _ => 0x2F#8
  | .bmi _ => 0x30#8
  | .andIzy _ => 0x31#8
  | .jam32 => 0x32#8
  | .rlaIzy _ => 0x33#8
  | .nopZpx34 _ => 0x34#8
  | .andZpx _ => 0x35#8
  | .rolZpx _ => 0x36#8
  | .rlaZpx _ => 0x37#8
  | .sec => 0x38#8
  | .andAbsy _ => 0x39#8
  | .nop3A => 0x3A#8
  | .rlaAbsy _ => 0x3B#8
  | .nopAbsx3C _ => 0x3C#8
  | .andAbsx _ => 0x3D#8
  | .rolAbsx _ => 0x3E#8
  | .rlaAbsx _ => 0x3F#8
  | .rti => 0x40#8
  | .eorIzx _ => 0x41#8
  | .jam42 => 0x42#8
  | .sreIzx _ => 0x43#8
  | .nopZp44 _ => 0x44#8
  | .eorZp _ => 0x45#8
  | .lsrZp _ => 0x46#8
  | .sreZp _ => 0x47#8
  | .pha => 0x48#8
  | .eorImm _ => 0x49#8
  | .lsrAcc => 0x4A#8
  | .alrImm _ => 0x4B#8
  | .jmpAbs _ => 0x4C#8
  | .eorAbs _ => 0x4D#8
  | .lsrAbs _ => 0x4E#8
  | .sreAbs _ => 0x4F#8
  | .bvc _ => 0x50#8
  | .eorIzy _ => 0x51#8
  | .jam52 => 0x52#8
  | .sreIzy _ => 0x53#8
  | .nopZpx54 _ => 0x54#8
  | .eorZpx _ => 0x55#8
  | .lsrZpx _ => 0x56#8
  | .sreZpx _ => 0x57#8
  | .cli => 0x58#8
  | .eorAbsy _ => 0x59#8
  | .nop5A => 0x5A#8
  | .sreAbsy _ => 0x5B#8
  | .nopAbsx5C _ => 0x5C#8
  | .eorAbsx _ => 0x5D#8
  | .lsrAbsx _ => 0x5E#8
  | .sreAbsx _ => 0x5F#8
  | .rts => 0x60#8
  | .adcIzx _ => 0x61#8
  | .jam62 => 0x62#8
  | .rraIzx _ => 0x63#8
  | .nopZp64 _ => 0x64#8
  | .adcZp _ => 0x65#8
  | .rorZp _ => 0x66#8
  | .rraZp _ => 0x67#8
  | .pla => 0x68#8
  | .adcImm _ => 0x69#8
  | .rorAcc => 0x6A#8
  | .arrImm _ => 0x6B#8
  | .jmpInd _ => 0x6C#8
  | .adcAbs _ => 0x6D#8
  | .rorAbs _ => 0x6E#8
  | .rraAbs _ => 0x6F#8
  | .bvs _ => 0x70#8
  | .adcIzy _ => 0x71#8
  | .jam72 => 0x72#8
  | .rraIzy _ => 0x73#8
  | .nopZpx74 _ => 0x74#8
  | .adcZpx _ => 0x75#8
  | .rorZpx _ => 0x76#8
  | .rraZpx _ => 0x77#8
  | .sei => 0x78#8
  | .adcAbsy _ => 0x79#8
  | .nop7A => 0x7A#8
  | .rraAbsy _ => 0x7B#8
  | .nopAbsx7C _ => 0x7C#8
  | .adcAbsx _ => 0x7D#8
  | .rorAbsx _ => 0x7E#8
  | .rraAbsx _ => 0x7F#8
  | .nopImm80 _ => 0x80#8
  | .staIzx _ => 0x81#8
  | .nopImm82 _ => 0x82#8
  | .saxIzx _ => 0x83#8
  | .styZp _ => 0x84#8
  | .staZp _ => 0x85#8
  | .stxZp _ => 0x86#8
  | .saxZp _ => 0x87#8
  | .dey => 0x88#8
  | .nopImm89 _ => 0x89#8
  | .txa => 0x8A#8
  | .ane => 0x8B#8
  | .styAbs _ => 0x8C#8
  | .staAbs _ => 0x8D#8
  | .stxAbs _ => 0x8E#8
  | .saxAbs _ => 0x8F#8
  | .bcc _ => 0x90#8
  | .staIzy _ => 0x91#8
  | .jam92 => 0x92#8
  | .sha93 => 0x93#8
  | .styZpx _ => 0x94#8
  | .staZpx _ => 0x95#8
  | .stxZpy _ => 0x96#8
  | .saxZpy _ => 0x97#8
  | .tya => 0x98#8
  | .staAbsy _ => 0x99#8
  | .txs => 0x9A#8
  | .tas => 0x9B#8
  | .shy => 0x9C#8
  | .staAbsx _ => 0x9D#8
  | .shx => 0x9E#8
  | .sha9F => 0x9F#8
  | .ldyImm _ => 0xA0#8
  | .ldaIzx _ => 0xA1#8
  | .ldxImm _ => 0xA2#8
  | .laxIzx _ => 0xA3#8
  | .ldyZp _ => 0xA4#8
  | .ldaZp _ => 0xA5#8
  | .ldxZp _ => 0xA6#8
  | .laxZp _ => 0xA7#8
  | .tay => 0xA8#8
  | .ldaImm _ => 0xA9#8
  | .tax => 0xAA#8
  | .lxa => 0xAB#8
  | .ldyAbs _ => 0xAC#8
  | .ldaAbs _ => 0xAD#8
  | .ldxAbs _ => 0xAE#8
  | .laxAbs _ => 0xAF#8
  | .bcs _ => 0xB0#8
  | .ldaIzy _ => 0xB1#8
  | .jamB2 => 0xB2#8
  | .laxIzy _ => 0xB3#8
  | .ldyZpx _ => 0xB4#8
  | .ldaZpx _ => 0xB5#8
  | .ldxZpy _ => 0xB6#8
  | .laxZpy _ => 0xB7#8
  | .clv => 0xB8#8
  | .ldaAbsy _ => 0xB9#8
  | .tsx => 0xBA#8
  | .lasAbsy _ => 0xBB#8
  | .ldyAbsx _ => 0xBC#8
  | .ldaAbsx _ => 0xBD#8
  | .ldxAbsy _ => 0xBE#8
  | .laxAbsy _ => 0xBF#8
  | .cpyImm _ => 0xC0#8
  | .cmpIzx _ => 0xC1#8
  | .nopImmC2 _ => 0xC2#8
  | .dcpIzx _ => 0xC3#8
  | .cpyZp _ => 0xC4#8
  | .cmpZp _ => 0xC5#8
  | .decZp _ => 0xC6#8
  | .dcpZp _ => 0xC7#8
  | .iny => 0xC8#8
  | .cmpImm _ => 0xC9#8
  | .dex => 0xCA#8
  | .sbxImm _ => 0xCB#8
  | .cpyAbs _ => 0xCC#8
  | .cmpAbs _ => 0xCD#8
  | .decAbs _ => 0xCE#8
  | .dcpAbs _ => 0xCF#8
  | .bne _ => 0xD0#8
  | .cmpIzy _ => 0xD1#8
  | .jamD2 => 0xD2#8
  | .dcpIzy _ => 0xD3#8
  | .nopZpxD4 _ => 0xD4#8
  | .cmpZpx _ => 0xD5#8
  | .decZpx _ => 0xD6#8
  | .dcpZpx _ => 0xD7#8
  | .cld => 0xD8#8
  | .cmpAbsy _ => 0xD9#8
  | .nopDA => 0xDA#8
  | .dcpAbsy _ => 0xDB#8
  | .nopAbsxDC _ => 0xDC#8
  | .cmpAbsx _ => 0xDD#8
  | .decAbsx _ => 0xDE#8
  | .dcpAbsx _ => 0xDF#8
  | .cpxImm _ => 0xE0#8
  | .sbcIzx _ => 0xE1#8
  | .nopImmE2 _ => 0xE2#8
  | .isbIzx _ => 0xE3#8
  | .cpxZp _ => 0xE4#8
  | .sbcZp _ => 0xE5#8
  | .incZp _ => 0xE6#8
  | .isbZp _ => 0xE7#8
  | .inx => 0xE8#8
  | .sbcImm _ => 0xE9#8
  | .nop => 0xEA#8
  | .sbcImmEB _ => 0xEB#8
  | .cpxAbs _ => 0xEC#8
  | .sbcAbs _ => 0xED#8
  | .incAbs _ => 0xEE#8
  | .isbAbs _ => 0xEF#8
  | .beq _ => 0xF0#8
  | .sbcIzy _ => 0xF1#8
  | .jamF2 => 0xF2#8
  | .isbIzy _ => 0xF3#8
  | .nopZpxF4 _ => 0xF4#8
  | .sbcZpx _ => 0xF5#8
  | .incZpx _ => 0xF6#8
  | .isbZpx _ => 0xF7#8
  | .sed => 0xF8#8
  | .sbcAbsy _ => 0xF9#8
  | .nopFA => 0xFA#8
  | .isbAbsy _ => 0xFB#8
  | .nopAbsxFC _ => 0xFC#8
  | .sbcAbsx _ => 0xFD#8
  | .incAbsx _ => 0xFE#8
  | .isbAbsx _ => 0xFF#8

/-- The operand of an instruction, in the mode of its row (R151, R167). -/
def Instr.operand : Instr → Operand
  | .brk => .imp
  | .oraIzx z => .mem (.izx z)
  | .jam02 => .imp
  | .sloIzx z => .mem (.izx z)
  | .nopZp04 z => .mem (.zp z)
  | .oraZp z => .mem (.zp z)
  | .aslZp z => .mem (.zp z)
  | .sloZp z => .mem (.zp z)
  | .php => .imp
  | .oraImm b => .imm b
  | .aslAcc => .acc
  | .ancImm0B b => .imm b
  | .nopAbs w => .mem (.abs w)
  | .oraAbs w => .mem (.abs w)
  | .aslAbs w => .mem (.abs w)
  | .sloAbs w => .mem (.abs w)
  | .bpl r => .rel r
  | .oraIzy z => .mem (.izy z)
  | .jam12 => .imp
  | .sloIzy z => .mem (.izy z)
  | .nopZpx14 z => .mem (.zpx z)
  | .oraZpx z => .mem (.zpx z)
  | .aslZpx z => .mem (.zpx z)
  | .sloZpx z => .mem (.zpx z)
  | .clc => .imp
  | .oraAbsy w => .mem (.absy w)
  | .nop1A => .imp
  | .sloAbsy w => .mem (.absy w)
  | .nopAbsx1C w => .mem (.absx w)
  | .oraAbsx w => .mem (.absx w)
  | .aslAbsx w => .mem (.absx w)
  | .sloAbsx w => .mem (.absx w)
  | .jsr w => .mem (.abs w)
  | .andIzx z => .mem (.izx z)
  | .jam22 => .imp
  | .rlaIzx z => .mem (.izx z)
  | .bitZp z => .mem (.zp z)
  | .andZp z => .mem (.zp z)
  | .rolZp z => .mem (.zp z)
  | .rlaZp z => .mem (.zp z)
  | .plp => .imp
  | .andImm b => .imm b
  | .rolAcc => .acc
  | .ancImm2B b => .imm b
  | .bitAbs w => .mem (.abs w)
  | .andAbs w => .mem (.abs w)
  | .rolAbs w => .mem (.abs w)
  | .rlaAbs w => .mem (.abs w)
  | .bmi r => .rel r
  | .andIzy z => .mem (.izy z)
  | .jam32 => .imp
  | .rlaIzy z => .mem (.izy z)
  | .nopZpx34 z => .mem (.zpx z)
  | .andZpx z => .mem (.zpx z)
  | .rolZpx z => .mem (.zpx z)
  | .rlaZpx z => .mem (.zpx z)
  | .sec => .imp
  | .andAbsy w => .mem (.absy w)
  | .nop3A => .imp
  | .rlaAbsy w => .mem (.absy w)
  | .nopAbsx3C w => .mem (.absx w)
  | .andAbsx w => .mem (.absx w)
  | .rolAbsx w => .mem (.absx w)
  | .rlaAbsx w => .mem (.absx w)
  | .rti => .imp
  | .eorIzx z => .mem (.izx z)
  | .jam42 => .imp
  | .sreIzx z => .mem (.izx z)
  | .nopZp44 z => .mem (.zp z)
  | .eorZp z => .mem (.zp z)
  | .lsrZp z => .mem (.zp z)
  | .sreZp z => .mem (.zp z)
  | .pha => .imp
  | .eorImm b => .imm b
  | .lsrAcc => .acc
  | .alrImm b => .imm b
  | .jmpAbs w => .mem (.abs w)
  | .eorAbs w => .mem (.abs w)
  | .lsrAbs w => .mem (.abs w)
  | .sreAbs w => .mem (.abs w)
  | .bvc r => .rel r
  | .eorIzy z => .mem (.izy z)
  | .jam52 => .imp
  | .sreIzy z => .mem (.izy z)
  | .nopZpx54 z => .mem (.zpx z)
  | .eorZpx z => .mem (.zpx z)
  | .lsrZpx z => .mem (.zpx z)
  | .sreZpx z => .mem (.zpx z)
  | .cli => .imp
  | .eorAbsy w => .mem (.absy w)
  | .nop5A => .imp
  | .sreAbsy w => .mem (.absy w)
  | .nopAbsx5C w => .mem (.absx w)
  | .eorAbsx w => .mem (.absx w)
  | .lsrAbsx w => .mem (.absx w)
  | .sreAbsx w => .mem (.absx w)
  | .rts => .imp
  | .adcIzx z => .mem (.izx z)
  | .jam62 => .imp
  | .rraIzx z => .mem (.izx z)
  | .nopZp64 z => .mem (.zp z)
  | .adcZp z => .mem (.zp z)
  | .rorZp z => .mem (.zp z)
  | .rraZp z => .mem (.zp z)
  | .pla => .imp
  | .adcImm b => .imm b
  | .rorAcc => .acc
  | .arrImm b => .imm b
  | .jmpInd w => .ind w
  | .adcAbs w => .mem (.abs w)
  | .rorAbs w => .mem (.abs w)
  | .rraAbs w => .mem (.abs w)
  | .bvs r => .rel r
  | .adcIzy z => .mem (.izy z)
  | .jam72 => .imp
  | .rraIzy z => .mem (.izy z)
  | .nopZpx74 z => .mem (.zpx z)
  | .adcZpx z => .mem (.zpx z)
  | .rorZpx z => .mem (.zpx z)
  | .rraZpx z => .mem (.zpx z)
  | .sei => .imp
  | .adcAbsy w => .mem (.absy w)
  | .nop7A => .imp
  | .rraAbsy w => .mem (.absy w)
  | .nopAbsx7C w => .mem (.absx w)
  | .adcAbsx w => .mem (.absx w)
  | .rorAbsx w => .mem (.absx w)
  | .rraAbsx w => .mem (.absx w)
  | .nopImm80 b => .imm b
  | .staIzx z => .mem (.izx z)
  | .nopImm82 b => .imm b
  | .saxIzx z => .mem (.izx z)
  | .styZp z => .mem (.zp z)
  | .staZp z => .mem (.zp z)
  | .stxZp z => .mem (.zp z)
  | .saxZp z => .mem (.zp z)
  | .dey => .imp
  | .nopImm89 b => .imm b
  | .txa => .imp
  | .ane => .imp
  | .styAbs w => .mem (.abs w)
  | .staAbs w => .mem (.abs w)
  | .stxAbs w => .mem (.abs w)
  | .saxAbs w => .mem (.abs w)
  | .bcc r => .rel r
  | .staIzy z => .mem (.izy z)
  | .jam92 => .imp
  | .sha93 => .imp
  | .styZpx z => .mem (.zpx z)
  | .staZpx z => .mem (.zpx z)
  | .stxZpy z => .mem (.zpy z)
  | .saxZpy z => .mem (.zpy z)
  | .tya => .imp
  | .staAbsy w => .mem (.absy w)
  | .txs => .imp
  | .tas => .imp
  | .shy => .imp
  | .staAbsx w => .mem (.absx w)
  | .shx => .imp
  | .sha9F => .imp
  | .ldyImm b => .imm b
  | .ldaIzx z => .mem (.izx z)
  | .ldxImm b => .imm b
  | .laxIzx z => .mem (.izx z)
  | .ldyZp z => .mem (.zp z)
  | .ldaZp z => .mem (.zp z)
  | .ldxZp z => .mem (.zp z)
  | .laxZp z => .mem (.zp z)
  | .tay => .imp
  | .ldaImm b => .imm b
  | .tax => .imp
  | .lxa => .imp
  | .ldyAbs w => .mem (.abs w)
  | .ldaAbs w => .mem (.abs w)
  | .ldxAbs w => .mem (.abs w)
  | .laxAbs w => .mem (.abs w)
  | .bcs r => .rel r
  | .ldaIzy z => .mem (.izy z)
  | .jamB2 => .imp
  | .laxIzy z => .mem (.izy z)
  | .ldyZpx z => .mem (.zpx z)
  | .ldaZpx z => .mem (.zpx z)
  | .ldxZpy z => .mem (.zpy z)
  | .laxZpy z => .mem (.zpy z)
  | .clv => .imp
  | .ldaAbsy w => .mem (.absy w)
  | .tsx => .imp
  | .lasAbsy w => .mem (.absy w)
  | .ldyAbsx w => .mem (.absx w)
  | .ldaAbsx w => .mem (.absx w)
  | .ldxAbsy w => .mem (.absy w)
  | .laxAbsy w => .mem (.absy w)
  | .cpyImm b => .imm b
  | .cmpIzx z => .mem (.izx z)
  | .nopImmC2 b => .imm b
  | .dcpIzx z => .mem (.izx z)
  | .cpyZp z => .mem (.zp z)
  | .cmpZp z => .mem (.zp z)
  | .decZp z => .mem (.zp z)
  | .dcpZp z => .mem (.zp z)
  | .iny => .imp
  | .cmpImm b => .imm b
  | .dex => .imp
  | .sbxImm b => .imm b
  | .cpyAbs w => .mem (.abs w)
  | .cmpAbs w => .mem (.abs w)
  | .decAbs w => .mem (.abs w)
  | .dcpAbs w => .mem (.abs w)
  | .bne r => .rel r
  | .cmpIzy z => .mem (.izy z)
  | .jamD2 => .imp
  | .dcpIzy z => .mem (.izy z)
  | .nopZpxD4 z => .mem (.zpx z)
  | .cmpZpx z => .mem (.zpx z)
  | .decZpx z => .mem (.zpx z)
  | .dcpZpx z => .mem (.zpx z)
  | .cld => .imp
  | .cmpAbsy w => .mem (.absy w)
  | .nopDA => .imp
  | .dcpAbsy w => .mem (.absy w)
  | .nopAbsxDC w => .mem (.absx w)
  | .cmpAbsx w => .mem (.absx w)
  | .decAbsx w => .mem (.absx w)
  | .dcpAbsx w => .mem (.absx w)
  | .cpxImm b => .imm b
  | .sbcIzx z => .mem (.izx z)
  | .nopImmE2 b => .imm b
  | .isbIzx z => .mem (.izx z)
  | .cpxZp z => .mem (.zp z)
  | .sbcZp z => .mem (.zp z)
  | .incZp z => .mem (.zp z)
  | .isbZp z => .mem (.zp z)
  | .inx => .imp
  | .sbcImm b => .imm b
  | .nop => .imp
  | .sbcImmEB b => .imm b
  | .cpxAbs w => .mem (.abs w)
  | .sbcAbs w => .mem (.abs w)
  | .incAbs w => .mem (.abs w)
  | .isbAbs w => .mem (.abs w)
  | .beq r => .rel r
  | .sbcIzy z => .mem (.izy z)
  | .jamF2 => .imp
  | .isbIzy z => .mem (.izy z)
  | .nopZpxF4 z => .mem (.zpx z)
  | .sbcZpx z => .mem (.zpx z)
  | .incZpx z => .mem (.zpx z)
  | .isbZpx z => .mem (.zpx z)
  | .sed => .imp
  | .sbcAbsy w => .mem (.absy w)
  | .nopFA => .imp
  | .isbAbsy w => .mem (.absy w)
  | .nopAbsxFC w => .mem (.absx w)
  | .sbcAbsx w => .mem (.absx w)
  | .incAbsx w => .mem (.absx w)
  | .isbAbsx w => .mem (.absx w)

/-- The operand bytes of a memory operand, in fetch order (R151). -/
def MemOperand.bytes : MemOperand → List Byte
  | .zp z => [z]
  | .zpx z => [z]
  | .zpy z => [z]
  | .abs w => [loByte w, hiByte w]
  | .absx w => [loByte w, hiByte w]
  | .absy w => [loByte w, hiByte w]
  | .izx z => [z]
  | .izy z => [z]

/-- The operand bytes of an operand, in fetch order (R151). -/
def Operand.bytes : Operand → List Byte
  | .imp => []
  | .acc => []
  | .imm b => [b]
  | .mem m => m.bytes
  | .rel r => [r]
  | .ind w => [loByte w, hiByte w]

/-- The encoder: the opcode byte, the operand bytes, and for BRK its padding byte, written as 0 (the table's `x` bits,
R150, R303). -/
def encode (i : Instr) : List Byte :=
  i.opcode :: (i.operand.bytes ++ List.replicate (entryOf i.opcode).padding 0#8)

/-- The three bytes, first byte in the low bits, of an instruction numbered as spec/opcode_table.json numbers its bits;
every bit from `nbits` up is 0. -/
def tableBytes (nbits w : Nat) : List Byte :=
  let v := w % 2 ^ nbits
  [BitVec.ofNat 8 v, BitVec.ofNat 8 (v / 256), BitVec.ofNat 8 (v / 65536)]

/-- The instruction the decoder reads from a table word of `nbits` bits. -/
def decodeTableWord (nbits w : Nat) : Option Instr :=
  match decode (tableBytes nbits w) with
  | .ok i _ => some i
  | .rejected _ => none

end Sys2Proof
end

