-- ==== Sys2Proof/Machine/Types.lean ====
section
/-! DEFINITION. The plain data that State is made of: sparse memories, the status flags and registers, the Bus handler
names, the PPU's register-level state, the cartridge and its mapper, the debug configuration and the records the model
keeps. No operation is defined here. -/

namespace Sys2Proof.Machine

/-- One byte array of the machine (internal RAM, PRG-RAM, PRG-ROM, CHR-ROM, OAM, the video array, the flat harness): the
bytes that differ from what an unlisted address reads as (`Memory.unlisted` in Memory.lean), by strictly rising index. -/
abbrev Memory := List Host.Cell

/-- The eight status flags, held as eight independent cells (R46). -/
structure Flags where
  /-- carry (R51) -/
  c : Bool
  /-- zero (R52) -/
  z : Bool
  /-- interrupt-disable (R53) -/
  i : Bool
  /-- decimal, storage only (R54) -/
  d : Bool
  /-- break, a stored cell (R55) -/
  b : Bool
  /-- reserved, a stored cell (R55) -/
  r : Bool
  /-- overflow (R56) -/
  v : Bool
  /-- negative (R57) -/
  n : Bool
deriving DecidableEq, Repr

/-- The CPU's five registers and its flags (R40). -/
structure Cpu where
  /-- accumulator (R41) -/
  a : Byte
  /-- index register X (R42) -/
  x : Byte
  /-- index register Y (R43) -/
  y : Byte
  /-- S, the stack pointer: the low byte of the next free location of page 1 (R44) -/
  sp : Byte
  /-- program counter (R45) -/
  pc : Word
  /-- the eight flags (R46) -/
  p : Flags
deriving DecidableEq, Repr

/-- The three IRQ sources of the request mask (R10, R59). -/
inductive IrqSource where
  /-- bit 0 -/
  | apuFrame
  /-- bit 1 -/
  | external
  /-- bit 2 -/
  | disk
deriving DecidableEq, Repr

/-- One bus access made by the CPU itself during a step (R110); the OAM DMA copy's reads are not among them (R611). -/
inductive BusAccess where
  | read (a : Word)
  | write (a : Word) (v : Byte)
deriving DecidableEq, Repr

/-- The debug configuration, written only by the host (R62). The address sets are lists. -/
structure Debug where
  breakpoints : List Word
  readWatch   : List Word
  writeWatch  : List Word
  breakOnNmi  : Bool
  breakOnIrq  : Bool
deriving DecidableEq, Repr

/-- What stands in one Bus slot (R101, R113). A handler is code, so it is named here and its meaning is in Ops.lean. -/
inductive Handler where
  /-- the unmapped-read and unmapped-write stubs (R105) -/
  | unmapped
  /-- internal RAM (R631) -/
  | ram
  /-- the PPU register window (R632) -/
  | ppu
  /-- block 2: APU and I/O, expansion space, OAM DMA at 0x4014 (R113, R121, R640); a read of 0x4014 answers as the other
  registers of the block do (DESIGN CHOICE, notes/assumptions/7) -/
  | apuIo
  /-- cartridge PRG-RAM (R113, R644) -/
  | prgRam
  /-- the mapper's PRG-ROM reads and register writes (R641, R644) -/
  | cartridge
  /-- RAM or registers of a mapper that the spec does not describe (R121, R641; notes/assumptions/29) -/
  | mapperDevice
  /-- the flat 64 KiB RAM harness of 92_eei_decisions.md D23 -/
  | flat
deriving DecidableEq, Repr

/-- One access to a device whose behaviour the spec does not give (R121): the history the DEVICE_READ oracle answers
from. Which accesses it holds is the model's choice (DESIGN CHOICE, notes/assumptions/7). `written` is the byte of a write and none for a read. -/
structure DeviceAccess where
  addr    : Word
  written : Option Byte
deriving DecidableEq, Repr

/-- An HStatus value (R638): control and mask bytes, the 8 CHR bank offsets, the mirroring descriptor, the 15-bit
scroll/address composite `t` and the 3-bit fine-X `x` (R634). -/
structure HStatus where
  ctrl    : Byte
  mask    : Byte
  chrBank : Vector Nat 8
  mirror  : Byte
  t       : BitVec 15
  x       : BitVec 3
deriving DecidableEq, Repr

/-- The field tag and new value of a logged register write (R638). -/
inductive PpuChange where
  | ctrl (d : Byte)
  | mask (d : Byte)
  /-- a SCROLL or ADDR write: the new composite and fine-X (R634) -/
  | scroll (t : BitVec 15) (x : BitVec 3)
  | chrBank (i : Fin 8) (offset : Nat)
  | mirror (d : Byte)
deriving DecidableEq, Repr

/-- One record of the event log: the scanline it takes effect on and the change (R638). -/
structure PpuEvent where
  scanline : Nat
  change   : PpuChange
deriving DecidableEq, Repr

/-- The eight PPU registers by number (R633). -/
inductive PpuReg where
  | ctrl | mask | status | oamAddr | oamData | scroll | addr | data
deriving DecidableEq, Repr

/-- The PPU as the CPU and the host see it (R633 to R639). -/
structure Ppu where
  /-- live status, mutated by register writes -/
  current    : HStatus
  /-- end-of-frame copy of `current` -/
  save       : HStatus
  /-- the state the finished frame was rendered from -/
  lastFrame  : HStatus
  /-- the VRAM address DATA uses (R634, R635) -/
  v          : BitVec 15
  /-- the two-stage write latch; false is the first write (R634) -/
  w          : Bool
  /-- the DATA read buffer (R635) -/
  buffer     : Byte
  /-- the OAM index (R633) -/
  oamAddr    : Byte
  /-- the 256 bytes of object-attribute memory -/
  oam        : Memory
  /-- the 16 KiB video array (R636) -/
  vram       : Memory
  /-- STATUS[7] -/
  vblank     : Bool
  /-- STATUS[6] -/
  spriteZero : Bool
  /-- STATUS[5] -/
  overflow   : Bool
  /-- the scanline index, 0 to 261 (R639) -/
  scanline   : Nat
  /-- the event buffer being filled in this frame, oldest first (R638) -/
  recording  : List PpuEvent
  /-- the event buffer of the finished frame (R638) -/
  finished   : List PpuEvent
deriving DecidableEq, Repr

/-- What the iNES container gives (R645): the cartridge, immutable during a run. -/
structure Cartridge where
  /-- header byte 4: number of 16 KiB PRG banks -/
  prgBanks       : Nat
  /-- header byte 5: number of 8 KiB CHR banks, 0 meaning CHR-RAM -/
  chrBanks       : Nat
  /-- PRG-ROM bytes by offset -/
  prg            : Memory
  /-- CHR-ROM bytes by offset -/
  chr            : Memory
  /-- header byte 6 bit 0: vertical mirroring -/
  verticalMirror : Bool
  /-- header byte 6 bit 1: battery-backed RAM present -/
  battery        : Bool
  /-- header byte 7 bits 3..2 are `10` -/
  nes20          : Bool
  /-- header byte 10 of the NES 2.0 variant: PRG-RAM size in bytes -/
  prgRamSize     : Option Nat
deriving DecidableEq, Repr

/-- One installation of a handler over a range of addresses, both ends included (R104). -/
inductive HandlerInstall where
  /-- `setReadMemory(first, last, h)` -/
  | read (first last : Word) (h : Handler)
  /-- `setWriteMemory(first, last, h)` -/
  | write (first last : Word) (h : Handler)
deriving DecidableEq, Repr

/-- The addresses from `first` to `last`, read from PRG-ROM at `offset` on: one choice of a mapper's read handlers (R641). -/
structure PrgWindow where
  first  : Word
  last   : Word
  offset : Nat
deriving DecidableEq, Repr

/-- What a mapper of the contract may do from a register write or from `onHblank` (R641, R643). -/
inductive MapperCall where
  /-- `setReadMemory` or `setWriteMemory`, for any blocks (R104, R120) -/
  | install (i : HandlerInstall)
  /-- `requestIrq(source)`: EXTERNAL, or another of the three sources (R641, R643) -/
  | requestIrq (source : IrqSource)
  /-- `clearIrqRequest(source)` -/
  | clearIrqRequest (source : IrqSource)
  /-- choose the PRG-ROM offset that the mapper's read handler reads from, for addresses of any number -/
  | setPrgWindow (w : PrgWindow)
  /-- `setChrBankOffset(i, offset)` -/
  | setChrBankOffset (i : Fin 8) (offset : Nat)
  /-- `setMirrorMode(descriptor)` -/
  | setMirrorMode (d : Byte)
deriving DecidableEq, Repr

/-- What reaches a mapper: a CPU write into its range (R641), or the hook of a scanline (R642). -/
inductive MapperInput where
  | write (a : Word) (d : Byte)
  | hblank (scanline : Nat)
deriving DecidableEq, Repr

/-- The mapper with its own state: the two reference mappers (R644), and any other that meets the contract (R641). -/
inductive Mapper where
  /-- mapper 0 -/
  | nrom
  /-- mapper 2, with its register `bank` -/
  | uxrom (bank : Nat)
  /-- a mapper the spec does not describe: the windows of PRG-ROM its read handlers have chosen and the handlers it has
  installed, oldest first, and, standing for the state that is opaque to the core, the inputs it has had, oldest first
  (R641; notes/assumptions/29) -/
  | contract (windows : List PrgWindow) (installs : List HandlerInstall) (inputs : List MapperInput)
deriving DecidableEq, Repr

/-- The parameters of R10 that have a value for this hardware and a second value the spec also describes, and the one
that is a run-time flag. They are held as data so that both values are modelled; no step changes them. -/
structure Params where
  /-- EXTRA_UNOFFICIAL (R169) -/
  extraUnofficial : Bool
  /-- RMW_PAGE_PENALTY (R709) -/
  rmwPagePenalty  : Bool
  /-- SPRITE_LIMIT_ENFORCED (R637) -/
  spriteLimit     : Bool
deriving DecidableEq, Repr

end Sys2Proof.Machine
end

