-- ==== Sys2Proof/Config.lean ====
section
/-! DEFINITION. The OPEN parameters and oracles of spec/00_scope.md R10: constants without a body, so that no proof can
see a value. (The parameters with a value for this hardware are in Machine/State.lean's `params` and, for the two cycle
numbers, in Machine/Ops.lean.) -/

namespace Sys2Proof

/-- UNMAPPED_READ_VALUE (R105): the fixed byte an unmapped read returns. OPEN. notes/assumptions/4. -/
opaque Config.unmappedReadValue : Byte

/-- OAM_DMA_STALL (R640): stolen cycles as a function of the parity of cycleTotal. OPEN. notes/assumptions/5. -/
opaque Config.oamDmaStall : Nat → Nat

/-- NMI_ON_CTRL_ENABLE (R637). OPEN. notes/assumptions/6. -/
opaque Config.nmiOnCtrlEnable : Bool

/-- DEVICE_READ (R121): the byte a read returns from a device the spec does not define, from the history of accesses to
such devices (this read's own record last) and the address. OPEN. notes/assumptions/7. -/
opaque Config.deviceRead : List Machine.DeviceAccess → Word → Byte

/-- DEVICE_READ (R121) for RAM or registers of a mapper that the spec does not describe: the byte depends on the inputs the
mapper has had too. OPEN. notes/assumptions/7 and 29. -/
opaque Config.mapperRead : List Machine.MapperInput → List Machine.DeviceAccess → Word → Byte

/-- PPU_SPRITE_STATUS (R637): whether sprite-zero hit (STATUS[6]) and sprite overflow (STATUS[5]) become 1 at a scanline,
from SPRITE_LIMIT_ENFORCED, the frame's PPU state and the scanline. OPEN. notes/assumptions/8. -/
opaque Config.spriteStatus : Bool → Machine.Ppu → Nat → Bool × Bool

/-- What a mapper that the spec does not describe does (R641 to R643): its calls, in order, from the inputs it has had
(this input last). OPEN. notes/assumptions/29. -/
opaque Config.mapperCalls : List Machine.MapperInput → List Machine.MapperCall

end Sys2Proof
end

