-- ==== Sys2Proof/Machine/State.lean ====
section
/-! DEFINITION. The machine's state as plain data, the reasons a step or a host call can stop, and the state right after
reset. INVENTORY.md lists every field with its rule and its reset value. -/

namespace Sys2Proof.Machine

/-- The fault records of the machine (R63, R608). The illegal-opcode halt is no stop of the model: it is a next state with
`paused` set and this record appended to `faults`. So no step ends in `Outcome.fault`; the type is the record's. -/
inductive Fault where
  /-- Recorded by the halt of R608 when the opcode `op` fetched at `pc` is the unknown marker. Safe: the spec names it. -/
  | illegalOpcode (op : Byte) (pc : Word)
deriving DecidableEq, Repr

/-- Why a call is refused. `step` never refuses; the others are answers to host calls made between steps. -/
inductive Refusal where
  /-- Raised by an arm of exec whose instruction has no meaning yet. Safe. No arm does. -/
  | notModelled (mnemonic : String)
  /-- Raised by the host calls requestIrq and clearIrqRequest on a source outside 0, 1, 2 (R613, U13). Safe. -/
  | irqSource (source : Nat)
  /-- Raised by loading an image whose bytes 0 to 3 are not the iNES magic (R645, U14). Safe. -/
  | badMagic
  /-- Raised by loading an image with a mapper number that is neither 0 nor 2 (R644, U14). Safe. -/
  | unsupportedMapper (number : Nat)
  /-- Raised by loading an image shorter than its header says. Safe. notes/assumptions/21. -/
  | imageTooShort
  /-- Raised by loading an image whose header names no PRG bank. Safe. notes/assumptions/21. -/
  | noPrgBank
deriving DecidableEq, Repr


/-- Everything the spec gives the machine. -/
structure State where
  /-- the five registers and eight flags (R40, R46) -/
  cpu         : Cpu
  /-- NMI latch (R58) -/
  nmiPending  : Bool
  /-- cycles still to elapse before the NMI may be serviced; it may run below 0 (R58, R610) -/
  nmiDelay    : Int
  /-- IRQ request mask, one bit per source (R59) -/
  irqRequest  : BitVec 3
  /-- stolen cycles not yet consumed (R60) -/
  stallCycles : Nat
  /-- pause flag (R61) -/
  paused      : Bool
  /-- breakpoints and watches (R62) -/
  debugCfg    : Debug
  /-- sum of all cycle counts returned by step (R63) -/
  cycleTotal  : Nat
  /-- the fault records, oldest first, never cleared (R63) -/
  faults      : List Fault
  /-- the cycle count the last step returned (R600); the model's own field -/
  stepCycles  : Nat
  /-- the CPU bus accesses of the last step, in order (R110, R611); the model's own field -/
  trace       : List BusAccess
  /-- the Bus read slots (R101) -/
  readSlot    : Vector Handler 8
  /-- the Bus write slots (R101) -/
  writeSlot   : Vector Handler 8
  /-- internal RAM, 2048 bytes (R631) -/
  ram         : Memory
  /-- cartridge PRG-RAM, 8192 bytes (R113, R644) -/
  prgRam      : Memory
  /-- the flat harness, 65536 bytes (D23) -/
  flat        : Memory
  /-- the PPU (R633 to R639) -/
  ppu         : Ppu
  /-- the cartridge (R645) -/
  cart        : Cartridge
  /-- the mapper and its register (R644) -/
  mapper      : Mapper
  /-- accesses to devices the spec does not define, oldest first (R121); register writes of a mapper of the contract are in its
  inputs instead (notes/assumptions/7); the model's own field -/
  deviceLog   : List DeviceAccess
  /-- the parameters held as data (R10) -/
  params      : Params
deriving DecidableEq, Repr

/-- The PPU registers at power-on: all 0 (92_eei_decisions.md D39), with the mirroring descriptor of the cartridge
(R636) and CHR bank offset i at i * 1024: by R644 for mappers 0 and 2, and for a mapper of the contract, of which the spec says
nothing, by the model's choice (DESIGN CHOICE, notes/assumptions/13). -/
def HStatus.powerOn (mirror : Byte) : HStatus :=
  { ctrl := 0#8, mask := 0#8, chrBank := #v[0, 1024, 2048, 3072, 4096, 5120, 6144, 7168], mirror := mirror, t := 0#15,
    x := 0#3 }

/-- The PPU at power-on (D39); the scanline, the snapshots and the buffers are notes/assumptions/13. -/
def Ppu.powerOn (mirror : Byte) : Ppu :=
  { current := HStatus.powerOn mirror, save := HStatus.powerOn mirror, lastFrame := HStatus.powerOn mirror, v := 0#15,
    w := false, buffer := 0#8, oamAddr := 0#8, oam := [], vram := [], vblank := false, spriteZero := false,
    overflow := false, scanline := 0, recording := [], finished := [] }

/-- The cartridge of `State.reset`: mapper 0, two PRG banks with no byte listed, CHR-RAM, horizontal mirroring
(notes/assumptions/2). -/
def Cartridge.blank : Cartridge :=
  { prgBanks := 2, chrBanks := 0, prg := [], chr := [], verticalMirror := false, battery := false, nes20 := false,
    prgRamSize := none }

/-- The flags right after the first reset: I = 1 (R700), R = 1 and the rest 0 (R66). -/
def Flags.reset : Flags :=
  { c := false, z := false, i := true, d := false, b := false, r := true, v := false, n := false }

/-- The machine right after its first reset (R66, R700, R702): constructed, the console devices and mapper 0 with the
blank cartridge installed, then reset. S is 0xFD; PC is the vector read from the blank cartridge. -/
def State.reset : State :=
  { cpu := { a := 0#8, x := 0#8, y := 0#8, sp := 0xFD#8, pc := 0#16, p := Flags.reset }
    nmiPending := false, nmiDelay := 0, irqRequest := 0#3, stallCycles := 0, paused := false
    debugCfg := { breakpoints := [], readWatch := [], writeWatch := [], breakOnNmi := false, breakOnIrq := false }
    cycleTotal := 0, faults := [], stepCycles := 0, trace := []
    readSlot := #v[.ram, .ppu, .apuIo, .unmapped, .cartridge, .cartridge, .cartridge, .cartridge]
    writeSlot := #v[.ram, .ppu, .apuIo, .unmapped, .cartridge, .cartridge, .cartridge, .cartridge]
    ram := [], prgRam := [], flat := []
    ppu := Ppu.powerOn 0x50#8
    cart := Cartridge.blank
    mapper := .nrom
    deviceLog := []
    params := { extraUnofficial := false, rmwPagePenalty := true, spriteLimit := false } }

end Sys2Proof.Machine
end

