-- ==== Sys2Proof/Machine/Memory.lean ====
section
/-! DEFINITION. The byte arrays: what an unlisted index reads as, reading, writing, and the canonical form that makes
equal contents equal data. Every array of the machine (RAM, PRG-RAM, PRG-ROM, CHR-ROM, OAM, video, flat) is one of these. -/

namespace Sys2Proof.Machine

/-- What an index that is not listed reads as (notes/assumptions/3). -/
def Memory.unlisted : Byte := 0#8

/-- The byte at an index. -/
def Memory.read : Memory → Nat → Byte
  | [], _ => Memory.unlisted
  | (k, v) :: rest, a => if k = a then v else Memory.read rest a

/-- Store a byte at an index, keeping the canonical form: writing what an unlisted index reads as removes the entry. -/
def Memory.write : Memory → Nat → Byte → Memory
  | [], a, v => if v = Memory.unlisted then [] else [(a, v)]
  | (k, w) :: rest, a, v =>
    if a < k then (if v = Memory.unlisted then (k, w) :: rest else (a, v) :: (k, w) :: rest)
    else if a = k then (if v = Memory.unlisted then rest else (a, v) :: rest)
    else (k, w) :: Memory.write rest a v

/-- The indexes are all at least `lo`, rise strictly, and no entry is what an unlisted index reads as. -/
def Memory.wfFrom : Nat → Memory → Bool
  | _, [] => true
  | lo, (k, v) :: rest => decide (lo ≤ k) && v != Memory.unlisted && Memory.wfFrom (k + 1) rest

/-- The canonical form. -/
def Memory.wf (m : Memory) : Bool := Memory.wfFrom 0 m

/-- Every listed index is below the size of the array. -/
def Memory.within (size : Nat) (m : Memory) : Bool := m.all fun cell => decide (cell.1 < size)

/-- The canonical memory that holds a list of bytes from an index on. -/
def Memory.ofBytes : Nat → List Byte → Memory
  | _, [] => []
  | a, v :: rest => if v = Memory.unlisted then Memory.ofBytes (a + 1) rest else (a, v) :: Memory.ofBytes (a + 1) rest

end Sys2Proof.Machine
end

