-- ==== Sys2Proof/Machine/Ppu.lean ====
section
/-! DEFINITION. The pending-event requests a device may make, and the PPU's register interface
(spec/60_exceptions.md R612, R615, R632 to R638): register writes and reads, the two-stage latch, the DATA buffer, the
video address space and the event log. The host's scanline tick is in HostOps.lean. -/

namespace Sys2Proof.Machine

/-- NMI_LATCH_DELAY (R10): 2 cycles. -/
def nmiLatchDelay : Int := 2

/-- `requestNmi()` (R612): no effect while one is pending. -/
def requestNmi (s : State) : State :=
  if s.nmiPending then s else { s with nmiPending := true, nmiDelay := nmiLatchDelay }

/-- `stall(cycles)` (R615): calls accumulate. -/
def stall (cycles : Nat) (s : State) : State := { s with stallCycles := s.stallCycles + cycles }

/-- The bit of an IRQ source in the request mask (R10, R59). -/
def IrqSource.bit : IrqSource → BitVec 3
  | .apuFrame => 1#3
  | .external => 2#3
  | .disk => 4#3

/-- Set a source's bit (R613). -/
def assertIrq (source : IrqSource) (s : State) : State := { s with irqRequest := s.irqRequest ||| source.bit }

/-- Clear a source's bit (R614). -/
def withdrawIrq (source : IrqSource) (s : State) : State := { s with irqRequest := s.irqRequest &&& ~~~source.bit }

/-- A read of a device the spec does not define (R121): the oracle's byte; the access joins the history. -/
def deviceRead (a : Word) (s : State) : Byte × State :=
  let log := s.deviceLog ++ [{ addr := a, written := none }]
  (Config.deviceRead log a, { s with deviceLog := log })

/-- A write to a device the spec does not define (R121): recorded, with no effect on CPU state. -/
def deviceWrite (a : Word) (v : Byte) (s : State) : State :=
  { s with deviceLog := s.deviceLog ++ [{ addr := a, written := some v }] }

/-- The register a CPU access in the window selects, `addr & 7` (R632). -/
def PpuReg.ofAddr (a : Word) : PpuReg :=
  match (a &&& 7#16).toNat with
  | 0 => .ctrl
  | 1 => .mask
  | 2 => .status
  | 3 => .oamAddr
  | 4 => .oamData
  | 5 => .scroll
  | 6 => .addr
  | _ => .data

/-- Whether a register write is logged now (R638): rendering enabled by MASK[3] or MASK[4], and a visible scanline. -/
def Ppu.recordingActive (p : Ppu) : Bool :=
  (p.current.mask.getLsbD 3 || p.current.mask.getLsbD 4) && decide (p.scanline ≤ 239)

/-- Append a change to the event log if recording was active before the write (R638; notes/assumptions/15). -/
def Ppu.log (was : Ppu) (change : PpuChange) (p : Ppu) : Ppu :=
  if was.recordingActive then { p with recording := p.recording ++ [{ scanline := p.scanline, change := change }] } else p

/-- Replace `t` and `x`, logged as a SCROLL or ADDR write (R634, R638; notes/assumptions/16). -/
def Ppu.setScroll (t : BitVec 15) (x : BitVec 3) (p : Ppu) : Ppu :=
  Ppu.log p (.scroll t x) { p with current := { p.current with t := t, x := x } }

/-- A CTRL write's effect on the PPU (R633, R634): the byte, and `t[11:10] <- d[1:0]`. -/
def Ppu.writeCtrl (d : Byte) (p : Ppu) : Ppu :=
  let t := p.current.t
  Ppu.log p (.ctrl d)
    { p with current := { p.current with ctrl := d, t := t.extractLsb' 12 3 ++ d.extractLsb' 0 2 ++ t.extractLsb' 0 10 } }

/-- A MASK write (R633). -/
def Ppu.writeMask (d : Byte) (p : Ppu) : Ppu :=
  Ppu.log p (.mask d) { p with current := { p.current with mask := d } }

/-- An OAMDATA write (R633): store and increment. -/
def Ppu.writeOamData (d : Byte) (p : Ppu) : Ppu :=
  { p with oam := p.oam.write p.oamAddr.toNat d, oamAddr := p.oamAddr + 1#8 }

/-- A SCROLL write (R634). -/
def Ppu.writeScroll (d : Byte) (p : Ppu) : Ppu :=
  let t := p.current.t
  if p.w then
    { Ppu.setScroll (d.extractLsb' 0 3 ++ t.extractLsb' 10 2 ++ d.extractLsb' 3 5 ++ t.extractLsb' 0 5) p.current.x p
      with w := false }
  else
    { Ppu.setScroll (t.extractLsb' 5 10 ++ d.extractLsb' 3 5) (d.extractLsb' 0 3) p with w := true }

/-- An ADDR write (R634): the second write copies `t` to `v`. -/
def Ppu.writeAddr (d : Byte) (p : Ppu) : Ppu :=
  let t := p.current.t
  if p.w then
    let t' := t.extractLsb' 8 7 ++ d
    { Ppu.setScroll t' p.current.x p with v := t', w := false }
  else
    { Ppu.setScroll (0#1 ++ d.extractLsb' 0 6 ++ t.extractLsb' 0 8) p.current.x p with w := true }

/-- Where a video address leads (R636): an offset of CHR-ROM or an index of the video array. -/
inductive VideoTarget where
  | chrRom (offset : Nat)
  | video (index : Nat)
deriving DecidableEq, Repr

/-- The palette index of R636: the low five bits, with 0x10, 0x14, 0x18, 0x1C the same as 0x00, 0x04, 0x08, 0x0C. -/
def paletteIndex (a : BitVec 14) : Nat :=
  let i := a &&& 0x1F#14
  if i &&& 0x13#14 = 0x10#14 then (i &&& 0x0F#14).toNat else i.toNat

/-- The nametable byte of an address in 0x2000..0x3EFF (R636): quadrant, physical bank, offset. -/
def nametableIndex (mirror : Byte) (a : BitVec 14) : Nat :=
  let q := (a.extractLsb' 10 2).toNat
  let bank := ((mirror >>> (2 * q)) &&& 3#8).toNat
  0x2000 + bank * 0x400 + (a.extractLsb' 0 10).toNat

/-- The video address decode (R636). `chrRom` says whether the cartridge has CHR-ROM. -/
def videoTarget (chrRom : Bool) (h : HStatus) (a : BitVec 14) : VideoTarget :=
  if a.toNat < 0x2000 then
    if chrRom then .chrRom (h.chrBank[(a.extractLsb' 10 3).toNat] + (a.extractLsb' 0 10).toNat) else .video a.toNat
  else if a.toNat < 0x3F00 then .video (nametableIndex h.mirror a)
  else .video (0x3F00 + paletteIndex a)

/-- Whether the range 0x0000..0x1FFF is CHR-ROM: header byte 5 is not 0 (R636, R645). -/
def Cartridge.hasChrRom (c : Cartridge) : Bool := c.chrBanks != 0

/-- `VramRead(a)` (R636). -/
def vramRead (c : Cartridge) (p : Ppu) (a : BitVec 14) : Byte :=
  match videoTarget c.hasChrRom p.current a with
  | .chrRom o => c.chr.read o
  | .video i => p.vram.read i

/-- `VramWrite(a, d)` (R636): ignored for CHR-ROM. -/
def vramWrite (c : Cartridge) (a : BitVec 14) (d : Byte) (p : Ppu) : Ppu :=
  match videoTarget c.hasChrRom p.current a with
  | .chrRom _ => p
  | .video i => { p with vram := p.vram.write i d }

/-- `v <- (v + inc) & 0x7FFF`, with inc 32 when CTRL[2] is 1 and 1 otherwise (R635). -/
def Ppu.advance (p : Ppu) : Ppu := { p with v := p.v + (if p.current.ctrl.getLsbD 2 then 32#15 else 1#15) }

/-- A DATA write (R635). -/
def Ppu.writeData (c : Cartridge) (d : Byte) (p : Ppu) : Ppu := (vramWrite c (p.v.setWidth 14) d p).advance

/-- A DATA read (R635): palette reads are unbuffered, every other returns the previous buffered byte. -/
def Ppu.readData (c : Cartridge) (p : Ppu) : Byte × Ppu :=
  let a : BitVec 14 := p.v.setWidth 14
  if 0x3F00 ≤ a.toNat then
    (vramRead c p a, { p with buffer := vramRead c p (a &&& 0x2FFF#14) }.advance)
  else
    (p.buffer, { p with buffer := vramRead c p a }.advance)

/-- The STATUS byte (R633): bits 7, 6, 5, the rest 0. -/
def Ppu.status (p : Ppu) : Byte :=
  BitVec.ofBool p.vblank ++ BitVec.ofBool p.spriteZero ++ BitVec.ofBool p.overflow ++ 0#5

/-- `setChrBankOffset(i, offset)` of the mapper contract (R641), through the event path. -/
def setChrBankOffset (i : Fin 8) (offset : Nat) (s : State) : State :=
  let p := s.ppu
  let q := { p with current := { p.current with chrBank := p.current.chrBank.set i offset } }
  { s with ppu := Ppu.log p (.chrBank i offset) q }

/-- `setMirrorMode(descriptor)` of the mapper contract (R641), through the event path. -/
def setMirrorMode (d : Byte) (s : State) : State :=
  let p := s.ppu
  let q := { p with current := { p.current with mirror := d } }
  { s with ppu := Ppu.log p (.mirror d) q }

/-- A CPU write to a PPU register (R633 to R637). -/
def ppuWrite (reg : PpuReg) (d : Byte) (s : State) : State :=
  match reg with
  | .ctrl =>
    let s' := { s with ppu := s.ppu.writeCtrl d }
    if !s.ppu.current.ctrl.getLsbD 7 && d.getLsbD 7 && s.ppu.vblank && Config.nmiOnCtrlEnable then requestNmi s' else s'
  | .mask => { s with ppu := s.ppu.writeMask d }
  | .status => s
  | .oamAddr => { s with ppu := { s.ppu with oamAddr := d } }
  | .oamData => { s with ppu := s.ppu.writeOamData d }
  | .scroll => { s with ppu := s.ppu.writeScroll d }
  | .addr => { s with ppu := s.ppu.writeAddr d }
  | .data => { s with ppu := s.ppu.writeData s.cart d }

/-- A read of a PPU register at address `a` (R633, R635, R637): STATUS clears VBlank and the latch after the byte is
taken; a write-only register answers from the oracle and changes no PPU state. -/
def ppuRead (reg : PpuReg) (a : Word) (s : State) : Byte × State :=
  match reg with
  | .status => (s.ppu.status, { s with ppu := { s.ppu with vblank := false, w := false } })
  | .oamData => (s.ppu.oam.read s.ppu.oamAddr.toNat, s)
  | .data => let r := s.ppu.readData s.cart; (r.1, { s with ppu := r.2 })
  | .ctrl => deviceRead a s
  | .mask => deviceRead a s
  | .oamAddr => deviceRead a s
  | .scroll => deviceRead a s
  | .addr => deviceRead a s

end Sys2Proof.Machine
end

