-- ==== Sys2Proof/Machine/Bus.lean ====
section
/-! DEFINITION. The Bus (spec/20_memory.md R100 to R105, R121), the reference mappers (spec/60_exceptions.md R644), OAM DMA
(R640), and the installation of handlers (R104, R630, R641). A bus access is one byte and always completes. -/

namespace Sys2Proof.Machine

/-- The block of an address, `addr >> 13` (R102). -/
def blockOf (a : Word) : Fin 8 := ⟨a.toNat / 8192, by omega⟩

/-- The RAM index of an address in block 0, `addr & 0x07FF` (R631). -/
def ramIndex (a : Word) : Nat := (a &&& 0x07FF#16).toNat

/-- The PRG-RAM index of an address in block 3: its offset in the 8 KiB block (R644). -/
def prgRamIndex (a : Word) : Nat := (a &&& 0x1FFF#16).toNat

/-- The PRG-ROM offset of an address after one more window: that of the window, if it covers the address. -/
def PrgWindow.offsetAt (a : Word) (before : Nat) (w : PrgWindow) : Nat :=
  if w.first ≤ a ∧ a ≤ w.last then w.offset + (a - w.first).toNat else before

/-- The PRG-ROM offset a mapper reads for an address: NROM repeats its banks, UxROM has a switched bank at 0x8000..0xBFFF and
its last bank at 0xC000..0xFFFF (R644); a mapper of the contract reads from the offset it has chosen last for the address
(R641). That outside every window it reads as NROM does, and that an offset past the end wraps, is the model's choice (DESIGN
CHOICE, notes/assumptions/29). -/
def prgOffset (m : Mapper) (prgBanks : Nat) (a : Word) : Nat :=
  match m with
  | .nrom => (a - 0x8000#16).toNat % (16384 * prgBanks)
  | .uxrom bank =>
    (if a.toNat < 0xC000 then bank else prgBanks - 1) * 16384 + (a &&& 0x3FFF#16).toNat
  | .contract windows _ _ => windows.foldl (PrgWindow.offsetAt a) (a - 0x8000#16).toNat % (16384 * prgBanks)

/-- A table of slots with `h` in every block from `first >> 13` to `last >> 13`, both included (R104). -/
def installRange (first last : Word) (h : Handler) (slots : Vector Handler 8) : Vector Handler 8 :=
  Vector.ofFn fun k => if blockOf first ≤ k ∧ k ≤ blockOf last then h else slots[k]

/-- `setReadMemory(start, end, reader)` (R104). -/
def setReadMemory (first last : Word) (h : Handler) (s : State) : State :=
  { s with readSlot := installRange first last h s.readSlot }

/-- `setWriteMemory(start, end, writer)` (R104). -/
def setWriteMemory (first last : Word) (h : Handler) (s : State) : State :=
  { s with writeSlot := installRange first last h s.writeSlot }

/-- One installation (R104). -/
def applyInstall (s : State) : HandlerInstall → State
  | .read first last h => setReadMemory first last h s
  | .write first last h => setWriteMemory first last h s

/-- A mapper of the contract chooses the PRG-ROM offset of some addresses; the reference mappers have no such register. -/
def Mapper.addWindow (w : PrgWindow) : Mapper → Mapper
  | .nrom => .nrom
  | .uxrom b => .uxrom b
  | .contract windows installs inputs => .contract (windows ++ [w]) installs inputs

/-- A mapper of the contract knows what it has installed, so that a load can install it again (R647). -/
def Mapper.addInstall (i : HandlerInstall) : Mapper → Mapper
  | .nrom => .nrom
  | .uxrom b => .uxrom b
  | .contract windows installs inputs => .contract windows (installs ++ [i]) inputs

/-- The inputs a mapper has had; those of the reference mappers are in no history. -/
def Mapper.inputs : Mapper → List MapperInput
  | .nrom => []
  | .uxrom _ => []
  | .contract _ _ inputs => inputs

/-- One call of a mapper into the core (R641, R643). A handler it installs serves the very next bus access (R104, R120). -/
def mapperCall (s : State) : MapperCall → State
  | .install i => applyInstall { s with mapper := s.mapper.addInstall i } i
  | .requestIrq source => assertIrq source s
  | .clearIrqRequest source => withdrawIrq source s
  | .setPrgWindow w => { s with mapper := s.mapper.addWindow w }
  | .setChrBankOffset i offset => setChrBankOffset i offset s
  | .setMirrorMode d => setMirrorMode d s

/-- An input of a mapper of the contract (R641 to R643): it joins the mapper's inputs, and the calls it causes are made in
order, at once. The reference mappers make no call (notes/assumptions/29). -/
def mapperInput (e : MapperInput) (s : State) : State :=
  match s.mapper with
  | .nrom => s
  | .uxrom _ => s
  | .contract windows installs inputs =>
    (Config.mapperCalls (inputs ++ [e])).foldl mapperCall { s with mapper := .contract windows installs (inputs ++ [e]) }

/-- A write to the mapper's range: NROM ignores it, UxROM selects a bank (R644), a mapper of the contract takes it as an
input (R641). Such a write stands in the mapper's inputs and not in `deviceLog`, so of the undefined devices only the mapper's own
can answer by it (DESIGN CHOICE, notes/assumptions/7). -/
def mapperWrite (a : Word) (d : Byte) (s : State) : State :=
  match s.mapper with
  | .nrom => s
  | .uxrom _ => { s with mapper := .uxrom (d.toNat % s.cart.prgBanks) }
  | .contract _ _ _ => mapperInput (.write a d) s

/-- A read of RAM or registers of a mapper that the spec does not describe (R121): any byte, from the inputs of the mapper and the
history, this read last; the read is no input of the mapper (DESIGN CHOICE, notes/assumptions/29). -/
def mapperRead (a : Word) (s : State) : Byte × State :=
  let history := s.deviceLog ++ [{ addr := a, written := none }]
  (Config.mapperRead s.mapper.inputs history a, { s with deviceLog := history })

/-- `Bus.read8(addr)` (R102): dispatch to the block's read handler. That a read of 0x4014 is answered by the oracle is the
model's choice (DESIGN CHOICE, notes/assumptions/7). -/
def busRead (a : Word) (s : State) : Byte × State :=
  match s.readSlot[blockOf a] with
  | .unmapped => (Config.unmappedReadValue, s)
  | .ram => (s.ram.read (ramIndex a), s)
  | .ppu => ppuRead (PpuReg.ofAddr a) a s
  | .apuIo => deviceRead a s
  | .prgRam => (s.prgRam.read (prgRamIndex a), s)
  | .cartridge => (s.cart.prg.read (prgOffset s.mapper s.cart.prgBanks a), s)
  | .mapperDevice => mapperRead a s
  | .flat => (s.flat.read a.toNat, s)

/-- One byte of the OAM DMA copy (R640): `oam[(oamAddr + i) & 0xFF] <- Bus.read8((d << 8) | i)`. -/
def oamDmaByte (d : Byte) (s : State) (i : Nat) : State :=
  let r := busRead (joinBytes d (BitVec.ofNat 8 i)) s
  { r.2 with ppu := { r.2.ppu with oam := r.2.ppu.oam.write (r.2.ppu.oamAddr + BitVec.ofNat 8 i).toNat r.1 } }

/-- A write of `d` to 0x4014 (R640): 256 bytes in order, then the stall by the parity of cycleTotal. -/
def oamDma (d : Byte) (s : State) : State :=
  stall (Config.oamDmaStall (s.cycleTotal % 2)) ((List.range 256).foldl (oamDmaByte d) s)

/-- `Bus.write8(addr, v)` (R102): dispatch to the block's write handler. A write to the RAM or registers of a mapper that the
spec does not describe is recorded (R121) and reaches the mapper (R641). -/
def busWrite (a : Word) (v : Byte) (s : State) : State :=
  match s.writeSlot[blockOf a] with
  | .unmapped => s
  | .ram => { s with ram := s.ram.write (ramIndex a) v }
  | .ppu => ppuWrite (PpuReg.ofAddr a) v s
  | .apuIo => if a = 0x4014#16 then oamDma v s else deviceWrite a v s
  | .prgRam => { s with prgRam := s.prgRam.write (prgRamIndex a) v }
  | .cartridge => mapperWrite a v s
  | .mapperDevice => mapperInput (.write a v) (deviceWrite a v s)
  | .flat => { s with flat := s.flat.write a.toNat v }

/-- Install one handler for both directions. -/
def setMemory (first last : Word) (h : Handler) (s : State) : State :=
  setWriteMemory first last h (setReadMemory first last h s)

/-- `clearMemoryMap()` (R103): every slot holds an unmapped stub. -/
def clearMemoryMap (s : State) : State :=
  { s with readSlot := Vector.replicate 8 .unmapped, writeSlot := Vector.replicate 8 .unmapped }

/-- The console's devices (R113, R630): RAM, the PPU window, APU and I/O. -/
def installConsole (s : State) : State :=
  setMemory 0x4000#16 0x5FFF#16 .apuIo (setMemory 0x2000#16 0x3FFF#16 .ppu (setMemory 0x0000#16 0x1FFF#16 .ram s))

/-- The mapper's handlers (R630, R641, R644): for the reference mappers PRG-ROM in blocks 4 to 7, and for mapper 0 PRG-RAM in
block 3 when header byte 6 bit 1 is set (notes/assumptions/20); for a mapper of the contract what it has installed. -/
def installMapper (s : State) : State :=
  match s.mapper with
  | .nrom =>
    let t := setMemory 0x8000#16 0xFFFF#16 .cartridge s
    if s.cart.battery then setMemory 0x6000#16 0x7FFF#16 .prgRam t else t
  | .uxrom _ => setMemory 0x8000#16 0xFFFF#16 .cartridge s
  | .contract _ installs _ => installs.foldl applyInstall s

/-- The whole installation at session start, in order (R630). -/
def installDevices (s : State) : State := installMapper (installConsole (clearMemoryMap s))

end Sys2Proof.Machine
end

