-- ==== Sys2Proof/Machine/Flags.lean ====
section
/-! DEFINITION. Every flag computation of the spec: the packed status byte (spec/10_state.md R47 to R50), N and Z from a
result (R18), the binary add and the compare (spec/42_arith_logic.md R230, R231), BIT, the shifts and rotates
(spec/43_shift_rotate.md) and the flag rules of the optional opcodes (spec/46_unofficial.md R352 to R355). -/

namespace Sys2Proof.Machine

/-- `SetNZ(v)` (R18). -/
def setNZ (v : Byte) (p : Flags) : Flags := { p with z := v == 0#8, n := v.getLsbD 7 }

/-- `Pack(b)` (R48): the status byte a push stores, bit 5 = 1 and bit 4 = b whatever the R and B cells hold. -/
def pack (b : Bool) (p : Flags) : Byte :=
  BitVec.ofBool p.n ++ BitVec.ofBool p.v ++ 1#1 ++ BitVec.ofBool b ++ BitVec.ofBool p.d ++ BitVec.ofBool p.i
    ++ BitVec.ofBool p.z ++ BitVec.ofBool p.c

/-- `Unpack(p)` (R49): PLP and RTI write all eight cells. -/
def unpack (b : Byte) : Flags :=
  { c := b.getLsbD 0, z := b.getLsbD 1, i := b.getLsbD 2, d := b.getLsbD 3, b := b.getLsbD 4, r := b.getLsbD 5,
    v := b.getLsbD 6, n := b.getLsbD 7 }

/-- The status byte the host reads, from the stored cells (R50). -/
def packStored (p : Flags) : Byte :=
  BitVec.ofBool p.n ++ BitVec.ofBool p.v ++ BitVec.ofBool p.r ++ BitVec.ofBool p.b ++ BitVec.ofBool p.d
    ++ BitVec.ofBool p.i ++ BitVec.ofBool p.z ++ BitVec.ofBool p.c

/-- `AddCore(M)` (R230) on accumulator `a`: the new A and flags. D is not read. -/
def addCore (a m : Byte) (p : Flags) : Byte × Flags :=
  let s := a.toNat + m.toNat + p.c.toNat
  let r := BitVec.ofNat 8 s
  (r, setNZ r { p with v := ((~~~(a ^^^ m)) &&& (a ^^^ r) &&& 0x80#8) != 0#8, c := decide (s > 0xFF) })

/-- SBC's use of AddCore (R241): the operand complemented. -/
def subCore (a m : Byte) (p : Flags) : Byte × Flags := addCore a (m ^^^ 0xFF#8) p

/-- `CompareCore(r, M)` (R231). -/
def compareCore (r m : Byte) (p : Flags) : Flags :=
  { p with c := decide (m.toNat ≤ r.toNat), z := r == m, n := (r - m).getLsbD 7 }

/-- BIT (R248): Z from A and M, N and V from M. -/
def bitCore (a m : Byte) (p : Flags) : Flags :=
  { p with z := (a &&& m) == 0#8, n := m.getLsbD 7, v := m.getLsbD 6 }

/-- ASL (R280). -/
def aslCore (v : Byte) (p : Flags) : Byte × Flags :=
  let r := v <<< 1
  (r, setNZ r { p with c := v.getLsbD 7 })

/-- LSR (R281). -/
def lsrCore (v : Byte) (p : Flags) : Byte × Flags :=
  let r := v >>> 1
  (r, setNZ r { p with c := v.getLsbD 0 })

/-- ROL (R282): the old C enters bit 0. -/
def rolCore (v : Byte) (p : Flags) : Byte × Flags :=
  let r := (v <<< 1) ||| (BitVec.ofBool p.c).setWidth 8
  (r, setNZ r { p with c := v.getLsbD 7 })

/-- ROR (R283): the old C enters bit 7. -/
def rorCore (v : Byte) (p : Flags) : Byte × Flags :=
  let r := (v >>> 1) ||| ((BitVec.ofBool p.c).setWidth 8 <<< 7)
  (r, setNZ r { p with c := v.getLsbD 0 })

/-- INC (R249): only N and Z. -/
def incCore (v : Byte) (p : Flags) : Byte × Flags := (v + 1#8, setNZ (v + 1#8) p)

/-- DEC (R250): only N and Z. -/
def decCore (v : Byte) (p : Flags) : Byte × Flags := (v - 1#8, setNZ (v - 1#8) p)

/-- ANC (R352): A and the immediate, C a copy of N. -/
def ancCore (a m : Byte) (p : Flags) : Byte × Flags :=
  let r := a &&& m
  (r, setNZ r { p with c := r.getLsbD 7 })

/-- ALR (R353). -/
def alrCore (a m : Byte) (p : Flags) : Byte × Flags := lsrCore (a &&& m) p

/-- ARR (R354): the rotate's N and Z, C bit 6 of the result, V bit 6 xor bit 5. -/
def arrCore (a m : Byte) (p : Flags) : Byte × Flags :=
  let r := ((a &&& m) >>> 1) ||| ((BitVec.ofBool p.c).setWidth 8 <<< 7)
  (r, setNZ r { p with c := r.getLsbD 6, v := r.getLsbD 6 ^^ r.getLsbD 5 })

/-- SBX (R355) on `t = A & X`: the new X and flags; V is not written. -/
def sbxCore (t m : Byte) (p : Flags) : Byte × Flags :=
  let r := t - m
  (r, setNZ r { p with c := decide (m.toNat ≤ t.toNat) })

end Sys2Proof.Machine
end

