-- ==== Sys2Proof/Machine/Ops.lean ====
section
/-! DEFINITION. The CPU's named operations: its bus accesses with the step's trace, register writes, the stack
(spec/00_scope.md R17), taking an exception and returning from one (spec/60_exceptions.md R603, spec/44_control.md R293,
R303), the illegal-opcode halt (R608), completing an instruction with its cycle count (R609, R709, R711), and instruction
fetch (R607, R110). -/

namespace Sys2Proof.Machine

/-- What a step, and the meaning of an instruction, answers. -/
abbrev Result := Host.Outcome State Fault Refusal

/-- INTERRUPT_CYCLES (R10): 7. -/
def interruptCycles : Nat := 7

/-! ## Bus accesses of the CPU -/

/-- `MemRead(addr, 1)` (R16), noted in the step's trace. -/
def cpuRead (a : Word) (s : State) : Byte × State :=
  let r := busRead a s
  (r.1, { r.2 with trace := r.2.trace ++ [.read a] })

/-- `MemWrite(addr, 1, v)` (R16), noted in the step's trace. -/
def cpuWrite (a : Word) (v : Byte) (s : State) : State :=
  let t := busWrite a v s
  { t with trace := t.trace ++ [.write a v] }

/-- `MemRead(addr, 2)` (R16): low byte first, the second address modulo 2^16. -/
def cpuReadWord (a : Word) (s : State) : Word × State :=
  let lo := cpuRead a s
  let hi := cpuRead (a + 1#16) lo.2
  (joinBytes hi.1 lo.1, hi.2)

/-- `MemReadZP16(p)` (R16): the pointer's second byte wraps in page 0. -/
def cpuReadZeroPageWord (p : Byte) (s : State) : Word × State :=
  let lo := cpuRead (zeroExtend16 p) s
  let hi := cpuRead (zeroExtend16 (p + 1#8)) lo.2
  (joinBytes hi.1 lo.1, hi.2)

/-- `MemReadPW16(p)` (R16, R159): the second byte comes from the same page. -/
def cpuReadPageWrappedWord (p : Word) (s : State) : Word × State :=
  let lo := cpuRead p s
  let hi := cpuRead ((p &&& 0xFF00#16) ||| ((p + 1#16) &&& 0x00FF#16)) lo.2
  (joinBytes hi.1 lo.1, hi.2)

/-! ## Register writes -/

/-- `A <- v`. -/
def State.setA (v : Byte) (s : State) : State := { s with cpu := { s.cpu with a := v } }

/-- `X <- v`. -/
def State.setX (v : Byte) (s : State) : State := { s with cpu := { s.cpu with x := v } }

/-- `Y <- v`. -/
def State.setY (v : Byte) (s : State) : State := { s with cpu := { s.cpu with y := v } }

/-- `S <- v`. -/
def State.setSp (v : Byte) (s : State) : State := { s with cpu := { s.cpu with sp := v } }

/-- `PC <- v`. -/
def State.setPc (v : Word) (s : State) : State := { s with cpu := { s.cpu with pc := v } }

/-- Write the flag cells. -/
def State.setFlags (p : Flags) (s : State) : State := { s with cpu := { s.cpu with p := p } }

/-- `A <- r.1` with the flags `r.2`. -/
def State.setAFlags (r : Byte × Flags) (s : State) : State := (s.setA r.1).setFlags r.2

/-- `X <- r.1` with the flags `r.2`. -/
def State.setXFlags (r : Byte × Flags) (s : State) : State := (s.setX r.1).setFlags r.2

/-- `Y <- r.1` with the flags `r.2`. -/
def State.setYFlags (r : Byte × Flags) (s : State) : State := (s.setY r.1).setFlags r.2

/-- The step's cycle count. -/
def State.setCycles (c : Nat) (s : State) : State := { s with stepCycles := c }

/-! ## The stack (R17, R111) -/

/-- The address of the stack byte S points at, `0x0100 | S` (R44). -/
def stackAddress (sp : Byte) : Word := 0x0100#16 ||| zeroExtend16 sp

/-- `Push(v)` (R17). -/
def push (v : Byte) (s : State) : State :=
  (cpuWrite (stackAddress s.cpu.sp) v s).setSp (s.cpu.sp - 1#8)

/-- `Pull()` (R17). -/
def pull (s : State) : Byte × State :=
  let sp := s.cpu.sp + 1#8
  cpuRead (stackAddress sp) (s.setSp sp)

/-- `Push16(w)` (R17): the high byte first. -/
def push16 (w : Word) (s : State) : State := push (loByte w) (push (hiByte w) s)

/-- `Pull16()` (R17): the low byte first. -/
def pull16 (s : State) : Word × State :=
  let lo := pull s
  let hi := pull lo.2
  (joinBytes hi.1 lo.1, hi.2)

/-! ## Exceptions -/

/-- Taking an exception, shared by NMI, IRQ (R603) and BRK (R303): push `ret`, high byte first, and the packed status with
break bit `b`; set I; load PC from `vector`. D and the stored B cell do not change (D24). -/
def enterException (vector ret : Word) (b : Bool) (s : State) : State :=
  let s1 := push16 ret s
  let s2 := push (pack b s1.cpu.p) s1
  let s3 := s2.setFlags { s2.cpu.p with i := true }
  let v := cpuReadWord vector s3
  v.2.setPc v.1

/-- The return from an exception (R293, R619): all eight flag cells from the pulled status, then PC; nothing is added. -/
def returnFromException (s : State) : State :=
  let p := pull s
  let a := pull16 (p.2.setFlags (unpack p.1))
  a.2.setPc a.1

/-- `raise Halt(IllegalOpcode(op))` (R608): `paused` set, the record appended, PC and all else unchanged, 0 cycles. -/
def haltIllegal (op : Byte) (s : State) : State :=
  { s with paused := true, faults := s.faults ++ [.illegalOpcode op s.cpu.pc], stepCycles := 0 }

/-! ## Completing an instruction -/

/-- Set PC and the step's cycle count. -/
def completeAt (pc : Word) (cycles : Nat) (s : State) : State := (s.setPc pc).setCycles cycles

/-- The page-crossing penalty `p` by operation class (R709). -/
def pagePenalty (cls : AccessClass) (crossed rmwPagePenalty : Bool) : Nat :=
  match cls with
  | .read => crossed.toNat
  | .rmw => if rmwPagePenalty then crossed.toNat else 0
  | .write => 0
  | .none => 0

/-- Complete the instruction with opcode `op` (R45, R609): `PC <- next`, cycles `base + p`. -/
def complete (op : Byte) (crossed : Bool) (s : State) : State :=
  let e := entryOf op
  completeAt (s.cpu.pc + BitVec.ofNat 16 e.length) (e.cycles + pagePenalty e.cls crossed s.params.rmwPagePenalty) s

/-! ## Fetch -/

/-- The opcode fetch, decode and operand fetch of R607 and R110 items 1 and 2. An unknown-marker opcode makes only the
opcode fetch (R608); its instruction is the one with operand bytes 0, which its halt does not look at
(notes/assumptions/10). -/
def fetchInstr (s : State) : Instr × State :=
  let o := cpuRead s.cpu.pc s
  let e := entryOf o.1
  if e.isMarker s.params.extraUnofficial then (decodeOpcode o.1 0#8 0#8, o.2)
  else
    match e.form with
    | .bare i => (i, o.2)
    | .byte f =>
      let b1 := cpuRead (s.cpu.pc + 1#16) o.2
      (f b1.1, b1.2)
    | .word f =>
      let b1 := cpuRead (s.cpu.pc + 1#16) o.2
      let b2 := cpuRead (s.cpu.pc + 2#16) b1.2
      (f (joinBytes b2.1 b1.1), b2.2)

end Sys2Proof.Machine
end

