-- ==== Sys2Proof/Machine/Operands.lean ====
section
/-! DEFINITION. Every operand form of the spec: the effective address and page crossing of the memory modes
(spec/30_encoding.md R155 to R166), the source operand, and the three data-access shapes of R110 item 4 (read, pure write,
read-modify-write). -/

namespace Sys2Proof.Machine

/-- An effective address with `Cross(mode)` and the state after the pointer fetch (R19). -/
structure Effective where
  addr    : Word
  crossed : Bool
  st      : State

/-- A source byte with `Cross(mode)` and the state after the data read (R19). -/
structure Loaded where
  val     : Byte
  crossed : Bool
  st      : State

/-- `((base ^ EA) & 0xFF00) != 0` (R161, R163, R164). -/
def pageCrossed (base ea : Word) : Bool := ((base ^^^ ea) &&& 0xFF00#16) != 0#16

/-- `EA = (base + index) & 0xFFFF` with its page crossing (R161, R163, R164). -/
def indexed (base : Word) (index : Byte) (s : State) : Effective :=
  let ea := base + zeroExtend16 index
  { addr := ea, crossed := pageCrossed base ea, st := s }

/-- `EA(mode)` of the memory modes (R156 to R158, R160 to R164). -/
def effectiveAddress (m : MemOperand) (s : State) : Effective :=
  match m with
  | .zp z => { addr := zeroExtend16 z, crossed := false, st := s }
  | .zpx z => { addr := zeroExtend16 (z + s.cpu.x), crossed := false, st := s }
  | .zpy z => { addr := zeroExtend16 (z + s.cpu.y), crossed := false, st := s }
  | .abs w => { addr := w, crossed := false, st := s }
  | .absx w => indexed w s.cpu.x s
  | .absy w => indexed w s.cpu.y s
  | .izx z =>
    let p := cpuReadZeroPageWord (z + s.cpu.x) s
    { addr := p.1, crossed := false, st := p.2 }
  | .izy z =>
    let p := cpuReadZeroPageWord z s
    indexed p.1 p.2.cpu.y p.2

/-- `Operand(mode)` (R19, R155): the immediate byte, or the byte at the effective address. -/
def readSource (o : Source) (s : State) : Loaded :=
  match o with
  | .imm b => { val := b, crossed := false, st := s }
  | .mem m =>
    let e := effectiveAddress m s
    let r := cpuRead e.addr e.st
    { val := r.1, crossed := e.crossed, st := r.2 }

/-- Read class and immediate forms (R110, R171): read M, let `f` use it, complete. -/
def withSource (op : Byte) (o : Source) (f : Byte → State → State) (s : State) : State :=
  let r := readSource o s
  complete op r.crossed (f r.val r.st)

/-- Write class (R110, R171): compute EA, write `v` there without reading, complete. -/
def storeAt (op : Byte) (m : MemOperand) (v : Byte) (s : State) : State :=
  let e := effectiveAddress m s
  complete op e.crossed (cpuWrite e.addr v e.st)

/-- Read-modify-write class (R110, R171): one read at EA, `core` gives the new byte and flags, one write at EA, then
`after` uses the new byte. -/
def modifyAt (op : Byte) (m : MemOperand) (core : Byte → Flags → Byte × Flags) (after : Byte → State → State)
    (s : State) : State :=
  let e := effectiveAddress m s
  let r := cpuRead e.addr e.st
  let v := core r.1 r.2.cpu.p
  complete op e.crossed (after v.1 ((cpuWrite e.addr v.1 r.2).setFlags v.2))

end Sys2Proof.Machine
end

