-- ==== Sys2Proof/Machine/Arith.lean ====
section
/-! DEFINITION. Arithmetic, logic, compare, increment (spec/42_arith_logic.md R240 to R254): one shared operation per mnemonic
over every operand form, and one meaning per opcode. -/

namespace Sys2Proof.Machine

/-- ADC (R240): `M <- Operand(mode); AddCore(M); PC <- next`. -/
def opAdc (op : Byte) (o : Source) (s : State) : State :=
  withSource op o (fun m t => t.setAFlags (addCore t.cpu.a m t.cpu.p)) s

/-- 0x61 ADC (zp,X) (R240). -/
def execAdcIzx (z : Byte) (s : State) : Result := .next (opAdc 0x61#8 (.mem (.izx z)) s)

/-- 0x65 ADC zp (R240). -/
def execAdcZp (z : Byte) (s : State) : Result := .next (opAdc 0x65#8 (.mem (.zp z)) s)

/-- 0x69 ADC #imm (R240). -/
def execAdcImm (b : Byte) (s : State) : Result := .next (opAdc 0x69#8 (.imm b) s)

/-- 0x6D ADC abs (R240). -/
def execAdcAbs (w : Word) (s : State) : Result := .next (opAdc 0x6D#8 (.mem (.abs w)) s)

/-- 0x71 ADC (zp),Y (R240). -/
def execAdcIzy (z : Byte) (s : State) : Result := .next (opAdc 0x71#8 (.mem (.izy z)) s)

/-- 0x75 ADC zp,X (R240). -/
def execAdcZpx (z : Byte) (s : State) : Result := .next (opAdc 0x75#8 (.mem (.zpx z)) s)

/-- 0x79 ADC abs,Y (R240). -/
def execAdcAbsy (w : Word) (s : State) : Result := .next (opAdc 0x79#8 (.mem (.absy w)) s)

/-- 0x7D ADC abs,X (R240). -/
def execAdcAbsx (w : Word) (s : State) : Result := .next (opAdc 0x7D#8 (.mem (.absx w)) s)

/-- SBC (R241; R348 for the unofficial 0xEB): `M <- Operand(mode); AddCore(M ^ 0xFF); PC <- next`. -/
def opSbc (op : Byte) (o : Source) (s : State) : State :=
  withSource op o (fun m t => t.setAFlags (subCore t.cpu.a m t.cpu.p)) s

/-- 0xE1 SBC (zp,X) (R241). -/
def execSbcIzx (z : Byte) (s : State) : Result := .next (opSbc 0xE1#8 (.mem (.izx z)) s)

/-- 0xE5 SBC zp (R241). -/
def execSbcZp (z : Byte) (s : State) : Result := .next (opSbc 0xE5#8 (.mem (.zp z)) s)

/-- 0xE9 SBC #imm (R241). -/
def execSbcImm (b : Byte) (s : State) : Result := .next (opSbc 0xE9#8 (.imm b) s)

/-- 0xEB SBC #imm (R348). -/
def execSbcImmEB (b : Byte) (s : State) : Result := .next (opSbc 0xEB#8 (.imm b) s)

/-- 0xED SBC abs (R241). -/
def execSbcAbs (w : Word) (s : State) : Result := .next (opSbc 0xED#8 (.mem (.abs w)) s)

/-- 0xF1 SBC (zp),Y (R241). -/
def execSbcIzy (z : Byte) (s : State) : Result := .next (opSbc 0xF1#8 (.mem (.izy z)) s)

/-- 0xF5 SBC zp,X (R241). -/
def execSbcZpx (z : Byte) (s : State) : Result := .next (opSbc 0xF5#8 (.mem (.zpx z)) s)

/-- 0xF9 SBC abs,Y (R241). -/
def execSbcAbsy (w : Word) (s : State) : Result := .next (opSbc 0xF9#8 (.mem (.absy w)) s)

/-- 0xFD SBC abs,X (R241). -/
def execSbcAbsx (w : Word) (s : State) : Result := .next (opSbc 0xFD#8 (.mem (.absx w)) s)

/-- AND (R242). -/
def opAnd (op : Byte) (o : Source) (s : State) : State :=
  withSource op o (fun m t => t.setAFlags (t.cpu.a &&& m, setNZ (t.cpu.a &&& m) t.cpu.p)) s

/-- 0x21 AND (zp,X) (R242). -/
def execAndIzx (z : Byte) (s : State) : Result := .next (opAnd 0x21#8 (.mem (.izx z)) s)

/-- 0x25 AND zp (R242). -/
def execAndZp (z : Byte) (s : State) : Result := .next (opAnd 0x25#8 (.mem (.zp z)) s)

/-- 0x29 AND #imm (R242). -/
def execAndImm (b : Byte) (s : State) : Result := .next (opAnd 0x29#8 (.imm b) s)

/-- 0x2D AND abs (R242). -/
def execAndAbs (w : Word) (s : State) : Result := .next (opAnd 0x2D#8 (.mem (.abs w)) s)

/-- 0x31 AND (zp),Y (R242). -/
def execAndIzy (z : Byte) (s : State) : Result := .next (opAnd 0x31#8 (.mem (.izy z)) s)

/-- 0x35 AND zp,X (R242). -/
def execAndZpx (z : Byte) (s : State) : Result := .next (opAnd 0x35#8 (.mem (.zpx z)) s)

/-- 0x39 AND abs,Y (R242). -/
def execAndAbsy (w : Word) (s : State) : Result := .next (opAnd 0x39#8 (.mem (.absy w)) s)

/-- 0x3D AND abs,X (R242). -/
def execAndAbsx (w : Word) (s : State) : Result := .next (opAnd 0x3D#8 (.mem (.absx w)) s)

/-- ORA (R243). -/
def opOra (op : Byte) (o : Source) (s : State) : State :=
  withSource op o (fun m t => t.setAFlags (t.cpu.a ||| m, setNZ (t.cpu.a ||| m) t.cpu.p)) s

/-- 0x01 ORA (zp,X) (R243). -/
def execOraIzx (z : Byte) (s : State) : Result := .next (opOra 0x01#8 (.mem (.izx z)) s)

/-- 0x05 ORA zp (R243). -/
def execOraZp (z : Byte) (s : State) : Result := .next (opOra 0x05#8 (.mem (.zp z)) s)

/-- 0x09 ORA #imm (R243). -/
def execOraImm (b : Byte) (s : State) : Result := .next (opOra 0x09#8 (.imm b) s)

/-- 0x0D ORA abs (R243). -/
def execOraAbs (w : Word) (s : State) : Result := .next (opOra 0x0D#8 (.mem (.abs w)) s)

/-- 0x11 ORA (zp),Y (R243). -/
def execOraIzy (z : Byte) (s : State) : Result := .next (opOra 0x11#8 (.mem (.izy z)) s)

/-- 0x15 ORA zp,X (R243). -/
def execOraZpx (z : Byte) (s : State) : Result := .next (opOra 0x15#8 (.mem (.zpx z)) s)

/-- 0x19 ORA abs,Y (R243). -/
def execOraAbsy (w : Word) (s : State) : Result := .next (opOra 0x19#8 (.mem (.absy w)) s)

/-- 0x1D ORA abs,X (R243). -/
def execOraAbsx (w : Word) (s : State) : Result := .next (opOra 0x1D#8 (.mem (.absx w)) s)

/-- EOR (R244). -/
def opEor (op : Byte) (o : Source) (s : State) : State :=
  withSource op o (fun m t => t.setAFlags (t.cpu.a ^^^ m, setNZ (t.cpu.a ^^^ m) t.cpu.p)) s

/-- 0x41 EOR (zp,X) (R244). -/
def execEorIzx (z : Byte) (s : State) : Result := .next (opEor 0x41#8 (.mem (.izx z)) s)

/-- 0x45 EOR zp (R244). -/
def execEorZp (z : Byte) (s : State) : Result := .next (opEor 0x45#8 (.mem (.zp z)) s)

/-- 0x49 EOR #imm (R244). -/
def execEorImm (b : Byte) (s : State) : Result := .next (opEor 0x49#8 (.imm b) s)

/-- 0x4D EOR abs (R244). -/
def execEorAbs (w : Word) (s : State) : Result := .next (opEor 0x4D#8 (.mem (.abs w)) s)

/-- 0x51 EOR (zp),Y (R244). -/
def execEorIzy (z : Byte) (s : State) : Result := .next (opEor 0x51#8 (.mem (.izy z)) s)

/-- 0x55 EOR zp,X (R244). -/
def execEorZpx (z : Byte) (s : State) : Result := .next (opEor 0x55#8 (.mem (.zpx z)) s)

/-- 0x59 EOR abs,Y (R244). -/
def execEorAbsy (w : Word) (s : State) : Result := .next (opEor 0x59#8 (.mem (.absy w)) s)

/-- 0x5D EOR abs,X (R244). -/
def execEorAbsx (w : Word) (s : State) : Result := .next (opEor 0x5D#8 (.mem (.absx w)) s)

/-- CMP (R245): `M <- Operand(mode); CompareCore(A, M); PC <- next`. -/
def opCmp (op : Byte) (o : Source) (s : State) : State :=
  withSource op o (fun m t => t.setFlags (compareCore t.cpu.a m t.cpu.p)) s

/-- 0xC1 CMP (zp,X) (R245). -/
def execCmpIzx (z : Byte) (s : State) : Result := .next (opCmp 0xC1#8 (.mem (.izx z)) s)

/-- 0xC5 CMP zp (R245). -/
def execCmpZp (z : Byte) (s : State) : Result := .next (opCmp 0xC5#8 (.mem (.zp z)) s)

/-- 0xC9 CMP #imm (R245). -/
def execCmpImm (b : Byte) (s : State) : Result := .next (opCmp 0xC9#8 (.imm b) s)

/-- 0xCD CMP abs (R245). -/
def execCmpAbs (w : Word) (s : State) : Result := .next (opCmp 0xCD#8 (.mem (.abs w)) s)

/-- 0xD1 CMP (zp),Y (R245). -/
def execCmpIzy (z : Byte) (s : State) : Result := .next (opCmp 0xD1#8 (.mem (.izy z)) s)

/-- 0xD5 CMP zp,X (R245). -/
def execCmpZpx (z : Byte) (s : State) : Result := .next (opCmp 0xD5#8 (.mem (.zpx z)) s)

/-- 0xD9 CMP abs,Y (R245). -/
def execCmpAbsy (w : Word) (s : State) : Result := .next (opCmp 0xD9#8 (.mem (.absy w)) s)

/-- 0xDD CMP abs,X (R245). -/
def execCmpAbsx (w : Word) (s : State) : Result := .next (opCmp 0xDD#8 (.mem (.absx w)) s)

/-- CPX (R246): `M <- Operand(mode); CompareCore(X, M); PC <- next`. -/
def opCpx (op : Byte) (o : Source) (s : State) : State :=
  withSource op o (fun m t => t.setFlags (compareCore t.cpu.x m t.cpu.p)) s

/-- 0xE0 CPX #imm (R246). -/
def execCpxImm (b : Byte) (s : State) : Result := .next (opCpx 0xE0#8 (.imm b) s)

/-- 0xE4 CPX zp (R246). -/
def execCpxZp (z : Byte) (s : State) : Result := .next (opCpx 0xE4#8 (.mem (.zp z)) s)

/-- 0xEC CPX abs (R246). -/
def execCpxAbs (w : Word) (s : State) : Result := .next (opCpx 0xEC#8 (.mem (.abs w)) s)

/-- CPY (R247): `M <- Operand(mode); CompareCore(Y, M); PC <- next`. -/
def opCpy (op : Byte) (o : Source) (s : State) : State :=
  withSource op o (fun m t => t.setFlags (compareCore t.cpu.y m t.cpu.p)) s

/-- 0xC0 CPY #imm (R247). -/
def execCpyImm (b : Byte) (s : State) : Result := .next (opCpy 0xC0#8 (.imm b) s)

/-- 0xC4 CPY zp (R247). -/
def execCpyZp (z : Byte) (s : State) : Result := .next (opCpy 0xC4#8 (.mem (.zp z)) s)

/-- 0xCC CPY abs (R247). -/
def execCpyAbs (w : Word) (s : State) : Result := .next (opCpy 0xCC#8 (.mem (.abs w)) s)

/-- BIT (R248): Z from A & M, N and V from M; A is not written. -/
def opBit (op : Byte) (o : Source) (s : State) : State :=
  withSource op o (fun m t => t.setFlags (bitCore t.cpu.a m t.cpu.p)) s

/-- 0x24 BIT zp (R248). -/
def execBitZp (z : Byte) (s : State) : Result := .next (opBit 0x24#8 (.mem (.zp z)) s)

/-- 0x2C BIT abs (R248). -/
def execBitAbs (w : Word) (s : State) : Result := .next (opBit 0x2C#8 (.mem (.abs w)) s)

/-- INC (R249): one read, one write, N and Z. -/
def opInc (op : Byte) (m : MemOperand) (s : State) : State :=
  modifyAt op m incCore (fun _ t => t) s

/-- 0xE6 INC zp (R249). -/
def execIncZp (z : Byte) (s : State) : Result := .next (opInc 0xE6#8 (.zp z) s)

/-- 0xEE INC abs (R249). -/
def execIncAbs (w : Word) (s : State) : Result := .next (opInc 0xEE#8 (.abs w) s)

/-- 0xF6 INC zp,X (R249). -/
def execIncZpx (z : Byte) (s : State) : Result := .next (opInc 0xF6#8 (.zpx z) s)

/-- 0xFE INC abs,X (R249). -/
def execIncAbsx (w : Word) (s : State) : Result := .next (opInc 0xFE#8 (.absx w) s)

/-- DEC (R250): one read, one write, N and Z. -/
def opDec (op : Byte) (m : MemOperand) (s : State) : State :=
  modifyAt op m decCore (fun _ t => t) s

/-- 0xC6 DEC zp (R250). -/
def execDecZp (z : Byte) (s : State) : Result := .next (opDec 0xC6#8 (.zp z) s)

/-- 0xCE DEC abs (R250). -/
def execDecAbs (w : Word) (s : State) : Result := .next (opDec 0xCE#8 (.abs w) s)

/-- 0xD6 DEC zp,X (R250). -/
def execDecZpx (z : Byte) (s : State) : Result := .next (opDec 0xD6#8 (.zpx z) s)

/-- 0xDE DEC abs,X (R250). -/
def execDecAbsx (w : Word) (s : State) : Result := .next (opDec 0xDE#8 (.absx w) s)

/-- 0xE8 INX (R251). -/
def execInx (s : State) : Result :=
  .next (complete 0xE8#8 false (s.setXFlags (incCore s.cpu.x s.cpu.p)))

/-- 0xC8 INY (R252). -/
def execIny (s : State) : Result :=
  .next (complete 0xC8#8 false (s.setYFlags (incCore s.cpu.y s.cpu.p)))

/-- 0xCA DEX (R253). -/
def execDex (s : State) : Result :=
  .next (complete 0xCA#8 false (s.setXFlags (decCore s.cpu.x s.cpu.p)))

/-- 0x88 DEY (R254). -/
def execDey (s : State) : Result :=
  .next (complete 0x88#8 false (s.setYFlags (decCore s.cpu.y s.cpu.p)))

end Sys2Proof.Machine
end

