-- ==== Sys2Proof/Machine/Control.lean ====
section
/-! DEFINITION. Jumps, subroutines, branches, BRK (spec/44_control.md R290 to R303), and the interrupt services of a step
(spec/60_exceptions.md R602 to R605), which share `enterException`. -/

namespace Sys2Proof.Machine

/-- 0x4C JMP abs (R290). -/
def execJmpAbs (w : Word) (s : State) : Result :=
  .next (completeAt w (entryOf 0x4C#8).cycles s)

/-- 0x6C JMP (abs) (R290). -/
def execJmpInd (w : Word) (s : State) : Result :=
  let p := cpuReadPageWrappedWord w s
  .next (completeAt p.1 (entryOf 0x6C#8).cycles p.2)

/-- 0x20 JSR abs (R291). -/
def execJsr (w : Word) (s : State) : Result :=
  .next (completeAt w (entryOf 0x20#8).cycles (push16 (s.cpu.pc + 2#16) s))

/-- 0x60 RTS (R292). -/
def execRts (s : State) : Result :=
  let p := pull16 s
  .next (completeAt (p.1 + 1#16) (entryOf 0x60#8).cycles p.2)

/-- 0x40 RTI (R293). -/
def execRti (s : State) : Result :=
  .next ((returnFromException s).setCycles (entryOf 0x40#8).cycles)

/-- The common rule of the eight branches (R294) with its cycle count (R710): the page test compares the target with the
address after the branch. -/
def branch (op : Byte) (taken : Bool) (r : Byte) (s : State) : State :=
  let next := s.cpu.pc + 2#16
  let target := next + signExtend16 r
  let base := (entryOf op).cycles
  if taken then completeAt target (base + if pageCrossed next target then 2 else 1) s
  else completeAt next base s

/-- 0x90 BCC rel (R295). -/
def execBcc (r : Byte) (s : State) : Result := .next (branch 0x90#8 (!s.cpu.p.c) r s)

/-- 0xB0 BCS rel (R296). -/
def execBcs (r : Byte) (s : State) : Result := .next (branch 0xB0#8 s.cpu.p.c r s)

/-- 0xF0 BEQ rel (R297). -/
def execBeq (r : Byte) (s : State) : Result := .next (branch 0xF0#8 s.cpu.p.z r s)

/-- 0xD0 BNE rel (R298). -/
def execBne (r : Byte) (s : State) : Result := .next (branch 0xD0#8 (!s.cpu.p.z) r s)

/-- 0x30 BMI rel (R299). -/
def execBmi (r : Byte) (s : State) : Result := .next (branch 0x30#8 s.cpu.p.n r s)

/-- 0x10 BPL rel (R300). -/
def execBpl (r : Byte) (s : State) : Result := .next (branch 0x10#8 (!s.cpu.p.n) r s)

/-- 0x50 BVC rel (R301). -/
def execBvc (r : Byte) (s : State) : Result := .next (branch 0x50#8 (!s.cpu.p.v) r s)

/-- 0x70 BVS rel (R302). -/
def execBvs (r : Byte) (s : State) : Result := .next (branch 0x70#8 s.cpu.p.v r s)

/-- The NMI vector (R112). -/
def nmiVector : Word := 0xFFFA#16

/-- The reset vector (R112). -/
def resetVector : Word := 0xFFFC#16

/-- The vector shared by IRQ and BRK (R112). -/
def irqVector : Word := 0xFFFE#16

/-- 0x00 BRK (R303). -/
def execBrk (s : State) : Result :=
  .next ((enterException irqVector (s.cpu.pc + 2#16) true s).setCycles (entryOf 0x00#8).cycles)

/-- The NMI service condition (R602). -/
def nmiDue (s : State) : Bool := s.nmiPending && decide (s.nmiDelay ≤ 0)

/-- Servicing an NMI (R602, R603): the latch is cleared, then the entry through 0xFFFA with B = 0. -/
def serviceNmi (s : State) : State :=
  (enterException nmiVector s.cpu.pc false { s with nmiPending := false, nmiDelay := 0 }).setCycles interruptCycles

/-- The IRQ service condition (R604), tested after the NMI's. -/
def irqDue (s : State) : Bool := s.irqRequest != 0#3 && !s.cpu.p.i

/-- Servicing an IRQ (R603, R605): the entry through 0xFFFE with B = 0, then the whole request mask is cleared. -/
def serviceIrq (s : State) : State :=
  { (enterException irqVector s.cpu.pc false s).setCycles interruptCycles with irqRequest := 0#3 }

/-- Consuming the DMA stall (R606): no bus access, all outstanding cycles at once. -/
def consumeStall (s : State) : State := { s with stallCycles := 0, stepCycles := s.stallCycles }

end Sys2Proof.Machine
end

