-- ==== Sys2Proof/Machine/FlagOps.lean ====
section
/-! DEFINITION. Flag instructions and the official NOP (spec/45_flags_nop.md R320 to R327). -/

namespace Sys2Proof.Machine

/-- 0x18 CLC (R320). -/
def execClc (s : State) : Result :=
  .next (complete 0x18#8 false (s.setFlags { s.cpu.p with c := false }))

/-- 0x38 SEC (R321). -/
def execSec (s : State) : Result :=
  .next (complete 0x38#8 false (s.setFlags { s.cpu.p with c := true }))

/-- 0x58 CLI (R322). -/
def execCli (s : State) : Result :=
  .next (complete 0x58#8 false (s.setFlags { s.cpu.p with i := false }))

/-- 0x78 SEI (R323). -/
def execSei (s : State) : Result :=
  .next (complete 0x78#8 false (s.setFlags { s.cpu.p with i := true }))

/-- 0xB8 CLV (R324). -/
def execClv (s : State) : Result :=
  .next (complete 0xB8#8 false (s.setFlags { s.cpu.p with v := false }))

/-- 0xD8 CLD (R325). -/
def execCld (s : State) : Result :=
  .next (complete 0xD8#8 false (s.setFlags { s.cpu.p with d := false }))

/-- 0xF8 SED (R326). -/
def execSed (s : State) : Result :=
  .next (complete 0xF8#8 false (s.setFlags { s.cpu.p with d := true }))

/-- 0xEA NOP (R327). -/
def execNop (s : State) : Result := .next (complete 0xEA#8 false s)

end Sys2Proof.Machine
end

