-- ==== Sys2Proof/Machine/LoadStore.lean ====
section
/-! DEFINITION. Loads and stores (spec/40_load_store.md R200 to R205): one shared operation per mnemonic over every operand
form, and one meaning per opcode. -/

namespace Sys2Proof.Machine

/-- LDA (R200): `M <- Operand(mode); A <- M; SetNZ(A); PC <- next`. -/
def opLda (op : Byte) (o : Source) (s : State) : State :=
  withSource op o (fun m t => t.setAFlags (m, setNZ m t.cpu.p)) s

/-- 0xA1 LDA (zp,X) (R200). -/
def execLdaIzx (z : Byte) (s : State) : Result := .next (opLda 0xA1#8 (.mem (.izx z)) s)

/-- 0xA5 LDA zp (R200). -/
def execLdaZp (z : Byte) (s : State) : Result := .next (opLda 0xA5#8 (.mem (.zp z)) s)

/-- 0xA9 LDA #imm (R200). -/
def execLdaImm (b : Byte) (s : State) : Result := .next (opLda 0xA9#8 (.imm b) s)

/-- 0xAD LDA abs (R200). -/
def execLdaAbs (w : Word) (s : State) : Result := .next (opLda 0xAD#8 (.mem (.abs w)) s)

/-- 0xB1 LDA (zp),Y (R200). -/
def execLdaIzy (z : Byte) (s : State) : Result := .next (opLda 0xB1#8 (.mem (.izy z)) s)

/-- 0xB5 LDA zp,X (R200). -/
def execLdaZpx (z : Byte) (s : State) : Result := .next (opLda 0xB5#8 (.mem (.zpx z)) s)

/-- 0xB9 LDA abs,Y (R200). -/
def execLdaAbsy (w : Word) (s : State) : Result := .next (opLda 0xB9#8 (.mem (.absy w)) s)

/-- 0xBD LDA abs,X (R200). -/
def execLdaAbsx (w : Word) (s : State) : Result := .next (opLda 0xBD#8 (.mem (.absx w)) s)

/-- LDX (R201): `M <- Operand(mode); X <- M; SetNZ(X); PC <- next`. -/
def opLdx (op : Byte) (o : Source) (s : State) : State :=
  withSource op o (fun m t => t.setXFlags (m, setNZ m t.cpu.p)) s

/-- 0xA2 LDX #imm (R201). -/
def execLdxImm (b : Byte) (s : State) : Result := .next (opLdx 0xA2#8 (.imm b) s)

/-- 0xA6 LDX zp (R201). -/
def execLdxZp (z : Byte) (s : State) : Result := .next (opLdx 0xA6#8 (.mem (.zp z)) s)

/-- 0xAE LDX abs (R201). -/
def execLdxAbs (w : Word) (s : State) : Result := .next (opLdx 0xAE#8 (.mem (.abs w)) s)

/-- 0xB6 LDX zp,Y (R201). -/
def execLdxZpy (z : Byte) (s : State) : Result := .next (opLdx 0xB6#8 (.mem (.zpy z)) s)

/-- 0xBE LDX abs,Y (R201). -/
def execLdxAbsy (w : Word) (s : State) : Result := .next (opLdx 0xBE#8 (.mem (.absy w)) s)

/-- LDY (R202): `M <- Operand(mode); Y <- M; SetNZ(Y); PC <- next`. -/
def opLdy (op : Byte) (o : Source) (s : State) : State :=
  withSource op o (fun m t => t.setYFlags (m, setNZ m t.cpu.p)) s

/-- 0xA0 LDY #imm (R202). -/
def execLdyImm (b : Byte) (s : State) : Result := .next (opLdy 0xA0#8 (.imm b) s)

/-- 0xA4 LDY zp (R202). -/
def execLdyZp (z : Byte) (s : State) : Result := .next (opLdy 0xA4#8 (.mem (.zp z)) s)

/-- 0xAC LDY abs (R202). -/
def execLdyAbs (w : Word) (s : State) : Result := .next (opLdy 0xAC#8 (.mem (.abs w)) s)

/-- 0xB4 LDY zp,X (R202). -/
def execLdyZpx (z : Byte) (s : State) : Result := .next (opLdy 0xB4#8 (.mem (.zpx z)) s)

/-- 0xBC LDY abs,X (R202). -/
def execLdyAbsx (w : Word) (s : State) : Result := .next (opLdy 0xBC#8 (.mem (.absx w)) s)

/-- STA (R203): `ea <- EA(mode); MemWrite(ea, 1, A); PC <- next`; a pure write. -/
def opSta (op : Byte) (m : MemOperand) (s : State) : State := storeAt op m s.cpu.a s

/-- 0x81 STA (zp,X) (R203). -/
def execStaIzx (z : Byte) (s : State) : Result := .next (opSta 0x81#8 (.izx z) s)

/-- 0x85 STA zp (R203). -/
def execStaZp (z : Byte) (s : State) : Result := .next (opSta 0x85#8 (.zp z) s)

/-- 0x8D STA abs (R203). -/
def execStaAbs (w : Word) (s : State) : Result := .next (opSta 0x8D#8 (.abs w) s)

/-- 0x91 STA (zp),Y (R203). -/
def execStaIzy (z : Byte) (s : State) : Result := .next (opSta 0x91#8 (.izy z) s)

/-- 0x95 STA zp,X (R203). -/
def execStaZpx (z : Byte) (s : State) : Result := .next (opSta 0x95#8 (.zpx z) s)

/-- 0x99 STA abs,Y (R203). -/
def execStaAbsy (w : Word) (s : State) : Result := .next (opSta 0x99#8 (.absy w) s)

/-- 0x9D STA abs,X (R203). -/
def execStaAbsx (w : Word) (s : State) : Result := .next (opSta 0x9D#8 (.absx w) s)

/-- STX (R204): `ea <- EA(mode); MemWrite(ea, 1, X); PC <- next`; a pure write. -/
def opStx (op : Byte) (m : MemOperand) (s : State) : State := storeAt op m s.cpu.x s

/-- 0x86 STX zp (R204). -/
def execStxZp (z : Byte) (s : State) : Result := .next (opStx 0x86#8 (.zp z) s)

/-- 0x8E STX abs (R204). -/
def execStxAbs (w : Word) (s : State) : Result := .next (opStx 0x8E#8 (.abs w) s)

/-- 0x96 STX zp,Y (R204). -/
def execStxZpy (z : Byte) (s : State) : Result := .next (opStx 0x96#8 (.zpy z) s)

/-- STY (R205): `ea <- EA(mode); MemWrite(ea, 1, Y); PC <- next`; a pure write. -/
def opSty (op : Byte) (m : MemOperand) (s : State) : State := storeAt op m s.cpu.y s

/-- 0x84 STY zp (R205). -/
def execStyZp (z : Byte) (s : State) : Result := .next (opSty 0x84#8 (.zp z) s)

/-- 0x8C STY abs (R205). -/
def execStyAbs (w : Word) (s : State) : Result := .next (opSty 0x8C#8 (.abs w) s)

/-- 0x94 STY zp,X (R205). -/
def execStyZpx (z : Byte) (s : State) : Result := .next (opSty 0x94#8 (.zpx z) s)

end Sys2Proof.Machine
end

