-- ==== Sys2Proof/Machine/Shift.lean ====
section
/-! DEFINITION. Shifts and rotates (spec/43_shift_rotate.md R280 to R283): the accumulator form and the memory forms. -/

namespace Sys2Proof.Machine

/-- The accumulator form (R154): operand and result in A, no data access. -/
def shiftA (op : Byte) (core : Byte → Flags → Byte × Flags) (s : State) : State :=
  complete op false (s.setAFlags (core s.cpu.a s.cpu.p))

/-- ASL in memory (R280). -/
def opAsl (op : Byte) (m : MemOperand) (s : State) : State :=
  modifyAt op m aslCore (fun _ t => t) s

/-- 0x06 ASL zp (R280). -/
def execAslZp (z : Byte) (s : State) : Result := .next (opAsl 0x06#8 (.zp z) s)

/-- 0x0A ASL A (R280). -/
def execAslAcc (s : State) : Result := .next (shiftA 0x0A#8 aslCore s)

/-- 0x0E ASL abs (R280). -/
def execAslAbs (w : Word) (s : State) : Result := .next (opAsl 0x0E#8 (.abs w) s)

/-- 0x16 ASL zp,X (R280). -/
def execAslZpx (z : Byte) (s : State) : Result := .next (opAsl 0x16#8 (.zpx z) s)

/-- 0x1E ASL abs,X (R280). -/
def execAslAbsx (w : Word) (s : State) : Result := .next (opAsl 0x1E#8 (.absx w) s)

/-- LSR in memory (R281). -/
def opLsr (op : Byte) (m : MemOperand) (s : State) : State :=
  modifyAt op m lsrCore (fun _ t => t) s

/-- 0x46 LSR zp (R281). -/
def execLsrZp (z : Byte) (s : State) : Result := .next (opLsr 0x46#8 (.zp z) s)

/-- 0x4A LSR A (R281). -/
def execLsrAcc (s : State) : Result := .next (shiftA 0x4A#8 lsrCore s)

/-- 0x4E LSR abs (R281). -/
def execLsrAbs (w : Word) (s : State) : Result := .next (opLsr 0x4E#8 (.abs w) s)

/-- 0x56 LSR zp,X (R281). -/
def execLsrZpx (z : Byte) (s : State) : Result := .next (opLsr 0x56#8 (.zpx z) s)

/-- 0x5E LSR abs,X (R281). -/
def execLsrAbsx (w : Word) (s : State) : Result := .next (opLsr 0x5E#8 (.absx w) s)

/-- ROL in memory (R282). -/
def opRol (op : Byte) (m : MemOperand) (s : State) : State :=
  modifyAt op m rolCore (fun _ t => t) s

/-- 0x26 ROL zp (R282). -/
def execRolZp (z : Byte) (s : State) : Result := .next (opRol 0x26#8 (.zp z) s)

/-- 0x2A ROL A (R282). -/
def execRolAcc (s : State) : Result := .next (shiftA 0x2A#8 rolCore s)

/-- 0x2E ROL abs (R282). -/
def execRolAbs (w : Word) (s : State) : Result := .next (opRol 0x2E#8 (.abs w) s)

/-- 0x36 ROL zp,X (R282). -/
def execRolZpx (z : Byte) (s : State) : Result := .next (opRol 0x36#8 (.zpx z) s)

/-- 0x3E ROL abs,X (R282). -/
def execRolAbsx (w : Word) (s : State) : Result := .next (opRol 0x3E#8 (.absx w) s)

/-- ROR in memory (R283). -/
def opRor (op : Byte) (m : MemOperand) (s : State) : State :=
  modifyAt op m rorCore (fun _ t => t) s

/-- 0x66 ROR zp (R283). -/
def execRorZp (z : Byte) (s : State) : Result := .next (opRor 0x66#8 (.zp z) s)

/-- 0x6A ROR A (R283). -/
def execRorAcc (s : State) : Result := .next (shiftA 0x6A#8 rorCore s)

/-- 0x6E ROR abs (R283). -/
def execRorAbs (w : Word) (s : State) : Result := .next (opRor 0x6E#8 (.abs w) s)

/-- 0x76 ROR zp,X (R283). -/
def execRorZpx (z : Byte) (s : State) : Result := .next (opRor 0x76#8 (.zpx z) s)

/-- 0x7E ROR abs,X (R283). -/
def execRorAbsx (w : Word) (s : State) : Result := .next (opRor 0x7E#8 (.absx w) s)

end Sys2Proof.Machine
end

