-- ==== Sys2Proof/Machine/Transfer.lean ====
section
/-! DEFINITION. Register transfers and stack (spec/41_transfer_stack.md R220 to R229). -/

namespace Sys2Proof.Machine

/-- 0xAA TAX (R220). -/
def execTax (s : State) : Result :=
  .next (complete 0xAA#8 false (s.setXFlags (s.cpu.a, setNZ s.cpu.a s.cpu.p)))

/-- 0xA8 TAY (R221). -/
def execTay (s : State) : Result :=
  .next (complete 0xA8#8 false (s.setYFlags (s.cpu.a, setNZ s.cpu.a s.cpu.p)))

/-- 0x8A TXA (R222). -/
def execTxa (s : State) : Result :=
  .next (complete 0x8A#8 false (s.setAFlags (s.cpu.x, setNZ s.cpu.x s.cpu.p)))

/-- 0x98 TYA (R223). -/
def execTya (s : State) : Result :=
  .next (complete 0x98#8 false (s.setAFlags (s.cpu.y, setNZ s.cpu.y s.cpu.p)))

/-- 0xBA TSX (R224). -/
def execTsx (s : State) : Result :=
  .next (complete 0xBA#8 false (s.setXFlags (s.cpu.sp, setNZ s.cpu.sp s.cpu.p)))

/-- 0x9A TXS (R225). -/
def execTxs (s : State) : Result :=
  .next (complete 0x9A#8 false (s.setSp s.cpu.x))

/-- 0x48 PHA (R226). -/
def execPha (s : State) : Result :=
  .next (complete 0x48#8 false (push s.cpu.a s))

/-- 0x08 PHP (R227). -/
def execPhp (s : State) : Result :=
  .next (complete 0x08#8 false (push (pack true s.cpu.p) s))

/-- 0x68 PLA (R228). -/
def execPla (s : State) : Result :=
  let m := pull s
  .next (complete 0x68#8 false (m.2.setAFlags (m.1, setNZ m.1 m.2.cpu.p)))

/-- 0x28 PLP (R229). -/
def execPlp (s : State) : Result :=
  let m := pull s
  .next (complete 0x28#8 false (m.2.setFlags (unpack m.1)))

end Sys2Proof.Machine
end

