-- ==== Sys2Proof/Machine/Unofficial.lean ====
section
/-! DEFINITION. Unofficial opcodes, the optional group and the unknown marker (spec/46_unofficial.md R340 to R357): one shared
operation per mnemonic over every operand form, and one meaning per opcode. -/

namespace Sys2Proof.Machine

/-- LAX (R340): A and X from M. -/
def opLax (op : Byte) (o : Source) (s : State) : State :=
  withSource op o (fun m t => (t.setAFlags (m, setNZ m t.cpu.p)).setX m) s

/-- 0xA3 LAX (zp,X) (R340). -/
def execLaxIzx (z : Byte) (s : State) : Result := .next (opLax 0xA3#8 (.mem (.izx z)) s)

/-- 0xA7 LAX zp (R340). -/
def execLaxZp (z : Byte) (s : State) : Result := .next (opLax 0xA7#8 (.mem (.zp z)) s)

/-- 0xAF LAX abs (R340). -/
def execLaxAbs (w : Word) (s : State) : Result := .next (opLax 0xAF#8 (.mem (.abs w)) s)

/-- 0xB3 LAX (zp),Y (R340). -/
def execLaxIzy (z : Byte) (s : State) : Result := .next (opLax 0xB3#8 (.mem (.izy z)) s)

/-- 0xB7 LAX zp,Y (R340). -/
def execLaxZpy (z : Byte) (s : State) : Result := .next (opLax 0xB7#8 (.mem (.zpy z)) s)

/-- 0xBF LAX abs,Y (R340). -/
def execLaxAbsy (w : Word) (s : State) : Result := .next (opLax 0xBF#8 (.mem (.absy w)) s)

/-- SAX (R341): a pure write of A & X; no flag. -/
def opSax (op : Byte) (m : MemOperand) (s : State) : State := storeAt op m (s.cpu.a &&& s.cpu.x) s

/-- 0x83 SAX (zp,X) (R341). -/
def execSaxIzx (z : Byte) (s : State) : Result := .next (opSax 0x83#8 (.izx z) s)

/-- 0x87 SAX zp (R341). -/
def execSaxZp (z : Byte) (s : State) : Result := .next (opSax 0x87#8 (.zp z) s)

/-- 0x8F SAX abs (R341). -/
def execSaxAbs (w : Word) (s : State) : Result := .next (opSax 0x8F#8 (.abs w) s)

/-- 0x97 SAX zp,Y (R341). -/
def execSaxZpy (z : Byte) (s : State) : Result := .next (opSax 0x97#8 (.zpy z) s)

/-- DCP (R342): decrement memory, then compare A with the new byte. -/
def opDcp (op : Byte) (m : MemOperand) (s : State) : State :=
  modifyAt op m decCore (fun r t => t.setFlags (compareCore t.cpu.a r t.cpu.p)) s

/-- 0xC3 DCP (zp,X) (R342). -/
def execDcpIzx (z : Byte) (s : State) : Result := .next (opDcp 0xC3#8 (.izx z) s)

/-- 0xC7 DCP zp (R342). -/
def execDcpZp (z : Byte) (s : State) : Result := .next (opDcp 0xC7#8 (.zp z) s)

/-- 0xCF DCP abs (R342). -/
def execDcpAbs (w : Word) (s : State) : Result := .next (opDcp 0xCF#8 (.abs w) s)

/-- 0xD3 DCP (zp),Y (R342). -/
def execDcpIzy (z : Byte) (s : State) : Result := .next (opDcp 0xD3#8 (.izy z) s)

/-- 0xD7 DCP zp,X (R342). -/
def execDcpZpx (z : Byte) (s : State) : Result := .next (opDcp 0xD7#8 (.zpx z) s)

/-- 0xDB DCP abs,Y (R342). -/
def execDcpAbsy (w : Word) (s : State) : Result := .next (opDcp 0xDB#8 (.absy w) s)

/-- 0xDF DCP abs,X (R342). -/
def execDcpAbsx (w : Word) (s : State) : Result := .next (opDcp 0xDF#8 (.absx w) s)

/-- ISB (R343): increment memory, then subtract the new byte. -/
def opIsb (op : Byte) (m : MemOperand) (s : State) : State :=
  modifyAt op m incCore (fun r t => t.setAFlags (subCore t.cpu.a r t.cpu.p)) s

/-- 0xE3 ISB (zp,X) (R343). -/
def execIsbIzx (z : Byte) (s : State) : Result := .next (opIsb 0xE3#8 (.izx z) s)

/-- 0xE7 ISB zp (R343). -/
def execIsbZp (z : Byte) (s : State) : Result := .next (opIsb 0xE7#8 (.zp z) s)

/-- 0xEF ISB abs (R343). -/
def execIsbAbs (w : Word) (s : State) : Result := .next (opIsb 0xEF#8 (.abs w) s)

/-- 0xF3 ISB (zp),Y (R343). -/
def execIsbIzy (z : Byte) (s : State) : Result := .next (opIsb 0xF3#8 (.izy z) s)

/-- 0xF7 ISB zp,X (R343). -/
def execIsbZpx (z : Byte) (s : State) : Result := .next (opIsb 0xF7#8 (.zpx z) s)

/-- 0xFB ISB abs,Y (R343). -/
def execIsbAbsy (w : Word) (s : State) : Result := .next (opIsb 0xFB#8 (.absy w) s)

/-- 0xFF ISB abs,X (R343). -/
def execIsbAbsx (w : Word) (s : State) : Result := .next (opIsb 0xFF#8 (.absx w) s)

/-- SLO (R344): shift memory left, then or it into A. -/
def opSlo (op : Byte) (m : MemOperand) (s : State) : State :=
  modifyAt op m aslCore (fun r t => t.setAFlags (t.cpu.a ||| r, setNZ (t.cpu.a ||| r) t.cpu.p)) s

/-- 0x03 SLO (zp,X) (R344). -/
def execSloIzx (z : Byte) (s : State) : Result := .next (opSlo 0x03#8 (.izx z) s)

/-- 0x07 SLO zp (R344). -/
def execSloZp (z : Byte) (s : State) : Result := .next (opSlo 0x07#8 (.zp z) s)

/-- 0x0F SLO abs (R344). -/
def execSloAbs (w : Word) (s : State) : Result := .next (opSlo 0x0F#8 (.abs w) s)

/-- 0x13 SLO (zp),Y (R344). -/
def execSloIzy (z : Byte) (s : State) : Result := .next (opSlo 0x13#8 (.izy z) s)

/-- 0x17 SLO zp,X (R344). -/
def execSloZpx (z : Byte) (s : State) : Result := .next (opSlo 0x17#8 (.zpx z) s)

/-- 0x1B SLO abs,Y (R344). -/
def execSloAbsy (w : Word) (s : State) : Result := .next (opSlo 0x1B#8 (.absy w) s)

/-- 0x1F SLO abs,X (R344). -/
def execSloAbsx (w : Word) (s : State) : Result := .next (opSlo 0x1F#8 (.absx w) s)

/-- RLA (R345): rotate memory left, then and it into A. -/
def opRla (op : Byte) (m : MemOperand) (s : State) : State :=
  modifyAt op m rolCore (fun r t => t.setAFlags (t.cpu.a &&& r, setNZ (t.cpu.a &&& r) t.cpu.p)) s

/-- 0x23 RLA (zp,X) (R345). -/
def execRlaIzx (z : Byte) (s : State) : Result := .next (opRla 0x23#8 (.izx z) s)

/-- 0x27 RLA zp (R345). -/
def execRlaZp (z : Byte) (s : State) : Result := .next (opRla 0x27#8 (.zp z) s)

/-- 0x2F RLA abs (R345). -/
def execRlaAbs (w : Word) (s : State) : Result := .next (opRla 0x2F#8 (.abs w) s)

/-- 0x33 RLA (zp),Y (R345). -/
def execRlaIzy (z : Byte) (s : State) : Result := .next (opRla 0x33#8 (.izy z) s)

/-- 0x37 RLA zp,X (R345). -/
def execRlaZpx (z : Byte) (s : State) : Result := .next (opRla 0x37#8 (.zpx z) s)

/-- 0x3B RLA abs,Y (R345). -/
def execRlaAbsy (w : Word) (s : State) : Result := .next (opRla 0x3B#8 (.absy w) s)

/-- 0x3F RLA abs,X (R345). -/
def execRlaAbsx (w : Word) (s : State) : Result := .next (opRla 0x3F#8 (.absx w) s)

/-- SRE (R346): shift memory right, then exclusive-or it into A. -/
def opSre (op : Byte) (m : MemOperand) (s : State) : State :=
  modifyAt op m lsrCore (fun r t => t.setAFlags (t.cpu.a ^^^ r, setNZ (t.cpu.a ^^^ r) t.cpu.p)) s

/-- 0x43 SRE (zp,X) (R346). -/
def execSreIzx (z : Byte) (s : State) : Result := .next (opSre 0x43#8 (.izx z) s)

/-- 0x47 SRE zp (R346). -/
def execSreZp (z : Byte) (s : State) : Result := .next (opSre 0x47#8 (.zp z) s)

/-- 0x4F SRE abs (R346). -/
def execSreAbs (w : Word) (s : State) : Result := .next (opSre 0x4F#8 (.abs w) s)

/-- 0x53 SRE (zp),Y (R346). -/
def execSreIzy (z : Byte) (s : State) : Result := .next (opSre 0x53#8 (.izy z) s)

/-- 0x57 SRE zp,X (R346). -/
def execSreZpx (z : Byte) (s : State) : Result := .next (opSre 0x57#8 (.zpx z) s)

/-- 0x5B SRE abs,Y (R346). -/
def execSreAbsy (w : Word) (s : State) : Result := .next (opSre 0x5B#8 (.absy w) s)

/-- 0x5F SRE abs,X (R346). -/
def execSreAbsx (w : Word) (s : State) : Result := .next (opSre 0x5F#8 (.absx w) s)

/-- RRA (R347): rotate memory right, then add it with the carry the rotate left. -/
def opRra (op : Byte) (m : MemOperand) (s : State) : State :=
  modifyAt op m rorCore (fun r t => t.setAFlags (addCore t.cpu.a r t.cpu.p)) s

/-- 0x63 RRA (zp,X) (R347). -/
def execRraIzx (z : Byte) (s : State) : Result := .next (opRra 0x63#8 (.izx z) s)

/-- 0x67 RRA zp (R347). -/
def execRraZp (z : Byte) (s : State) : Result := .next (opRra 0x67#8 (.zp z) s)

/-- 0x6F RRA abs (R347). -/
def execRraAbs (w : Word) (s : State) : Result := .next (opRra 0x6F#8 (.abs w) s)

/-- 0x73 RRA (zp),Y (R347). -/
def execRraIzy (z : Byte) (s : State) : Result := .next (opRra 0x73#8 (.izy z) s)

/-- 0x77 RRA zp,X (R347). -/
def execRraZpx (z : Byte) (s : State) : Result := .next (opRra 0x77#8 (.zpx z) s)

/-- 0x7B RRA abs,Y (R347). -/
def execRraAbsy (w : Word) (s : State) : Result := .next (opRra 0x7B#8 (.absy w) s)

/-- 0x7F RRA abs,X (R347). -/
def execRraAbsx (w : Word) (s : State) : Result := .next (opRra 0x7F#8 (.absx w) s)

/-- The NOPs with an operand (R350, R351): the immediate is discarded; the memory forms read their byte and discard it. -/
def opNopRead (op : Byte) (o : Source) (s : State) : State := withSource op o (fun _ t => t) s

/-- 0x04 NOP zp (R351). -/
def execNopZp04 (z : Byte) (s : State) : Result := .next (opNopRead 0x04#8 (.mem (.zp z)) s)

/-- 0x0C NOP abs (R351). -/
def execNopAbs (w : Word) (s : State) : Result := .next (opNopRead 0x0C#8 (.mem (.abs w)) s)

/-- 0x14 NOP zp,X (R351). -/
def execNopZpx14 (z : Byte) (s : State) : Result := .next (opNopRead 0x14#8 (.mem (.zpx z)) s)

/-- 0x1A NOP (R349). -/
def execNop1A (s : State) : Result := .next (complete 0x1A#8 false s)

/-- 0x1C NOP abs,X (R351). -/
def execNopAbsx1C (w : Word) (s : State) : Result := .next (opNopRead 0x1C#8 (.mem (.absx w)) s)

/-- 0x34 NOP zp,X (R351). -/
def execNopZpx34 (z : Byte) (s : State) : Result := .next (opNopRead 0x34#8 (.mem (.zpx z)) s)

/-- 0x3A NOP (R349). -/
def execNop3A (s : State) : Result := .next (complete 0x3A#8 false s)

/-- 0x3C NOP abs,X (R351). -/
def execNopAbsx3C (w : Word) (s : State) : Result := .next (opNopRead 0x3C#8 (.mem (.absx w)) s)

/-- 0x44 NOP zp (R351). -/
def execNopZp44 (z : Byte) (s : State) : Result := .next (opNopRead 0x44#8 (.mem (.zp z)) s)

/-- 0x54 NOP zp,X (R351). -/
def execNopZpx54 (z : Byte) (s : State) : Result := .next (opNopRead 0x54#8 (.mem (.zpx z)) s)

/-- 0x5A NOP (R349). -/
def execNop5A (s : State) : Result := .next (complete 0x5A#8 false s)

/-- 0x5C NOP abs,X (R351). -/
def execNopAbsx5C (w : Word) (s : State) : Result := .next (opNopRead 0x5C#8 (.mem (.absx w)) s)

/-- 0x64 NOP zp (R351). -/
def execNopZp64 (z : Byte) (s : State) : Result := .next (opNopRead 0x64#8 (.mem (.zp z)) s)

/-- 0x74 NOP zp,X (R351). -/
def execNopZpx74 (z : Byte) (s : State) : Result := .next (opNopRead 0x74#8 (.mem (.zpx z)) s)

/-- 0x7A NOP (R349). -/
def execNop7A (s : State) : Result := .next (complete 0x7A#8 false s)

/-- 0x7C NOP abs,X (R351). -/
def execNopAbsx7C (w : Word) (s : State) : Result := .next (opNopRead 0x7C#8 (.mem (.absx w)) s)

/-- 0x80 NOP #imm (R350). -/
def execNopImm80 (b : Byte) (s : State) : Result := .next (opNopRead 0x80#8 (.imm b) s)

/-- 0x82 NOP #imm (R350). -/
def execNopImm82 (b : Byte) (s : State) : Result := .next (opNopRead 0x82#8 (.imm b) s)

/-- 0x89 NOP #imm (R350). -/
def execNopImm89 (b : Byte) (s : State) : Result := .next (opNopRead 0x89#8 (.imm b) s)

/-- 0xC2 NOP #imm (R350). -/
def execNopImmC2 (b : Byte) (s : State) : Result := .next (opNopRead 0xC2#8 (.imm b) s)

/-- 0xD4 NOP zp,X (R351). -/
def execNopZpxD4 (z : Byte) (s : State) : Result := .next (opNopRead 0xD4#8 (.mem (.zpx z)) s)

/-- 0xDA NOP (R349). -/
def execNopDA (s : State) : Result := .next (complete 0xDA#8 false s)

/-- 0xDC NOP abs,X (R351). -/
def execNopAbsxDC (w : Word) (s : State) : Result := .next (opNopRead 0xDC#8 (.mem (.absx w)) s)

/-- 0xE2 NOP #imm (R350). -/
def execNopImmE2 (b : Byte) (s : State) : Result := .next (opNopRead 0xE2#8 (.imm b) s)

/-- 0xF4 NOP zp,X (R351). -/
def execNopZpxF4 (z : Byte) (s : State) : Result := .next (opNopRead 0xF4#8 (.mem (.zpx z)) s)

/-- 0xFA NOP (R349). -/
def execNopFA (s : State) : Result := .next (complete 0xFA#8 false s)

/-- 0xFC NOP abs,X (R351). -/
def execNopAbsxFC (w : Word) (s : State) : Result := .next (opNopRead 0xFC#8 (.mem (.absx w)) s)

/-- An opcode of the optional group: its operation when EXTRA_UNOFFICIAL is true, the halt of R357 when it is false. -/
def whenExtra (op : Byte) (f : State → State) (s : State) : State :=
  if s.params.extraUnofficial then f s else haltIllegal op s

/-- ANC (R352). -/
def opAnc (op b : Byte) (s : State) : State :=
  whenExtra op (fun t => complete op false (t.setAFlags (ancCore t.cpu.a b t.cpu.p))) s

/-- 0x0B ANC #imm (R352). -/
def execAncImm0B (b : Byte) (s : State) : Result := .next (opAnc 0x0B#8 b s)

/-- 0x2B ANC #imm (R352). -/
def execAncImm2B (b : Byte) (s : State) : Result := .next (opAnc 0x2B#8 b s)

/-- 0x4B ALR #imm (R353). -/
def execAlrImm (b : Byte) (s : State) : Result :=
  .next (whenExtra 0x4B#8 (fun t => complete 0x4B#8 false (t.setAFlags (alrCore t.cpu.a b t.cpu.p))) s)

/-- 0x6B ARR #imm (R354). -/
def execArrImm (b : Byte) (s : State) : Result :=
  .next (whenExtra 0x6B#8 (fun t => complete 0x6B#8 false (t.setAFlags (arrCore t.cpu.a b t.cpu.p))) s)

/-- 0xCB SBX #imm (R355). -/
def execSbxImm (b : Byte) (s : State) : Result :=
  .next (whenExtra 0xCB#8 (fun t => complete 0xCB#8 false (t.setXFlags (sbxCore (t.cpu.a &&& t.cpu.x) b t.cpu.p))) s)

/-- LAS (R356): `v = M & S` into A, X and S. -/
def opLas (op : Byte) (o : Source) (s : State) : State :=
  withSource op o (fun m t =>
    let v := m &&& t.cpu.sp
    ((t.setAFlags (v, setNZ v t.cpu.p)).setX v).setSp v) s

/-- 0xBB LAS abs,Y (R356). -/
def execLasAbsy (w : Word) (s : State) : Result :=
  .next (whenExtra 0xBB#8 (opLas 0xBB#8 (.mem (.absy w))) s)

/-- 0x02 JAM (R357). -/
def execJam02 (s : State) : Result := .next (haltIllegal 0x02#8 s)

/-- 0x12 JAM (R357). -/
def execJam12 (s : State) : Result := .next (haltIllegal 0x12#8 s)

/-- 0x22 JAM (R357). -/
def execJam22 (s : State) : Result := .next (haltIllegal 0x22#8 s)

/-- 0x32 JAM (R357). -/
def execJam32 (s : State) : Result := .next (haltIllegal 0x32#8 s)

/-- 0x42 JAM (R357). -/
def execJam42 (s : State) : Result := .next (haltIllegal 0x42#8 s)

/-- 0x52 JAM (R357). -/
def execJam52 (s : State) : Result := .next (haltIllegal 0x52#8 s)

/-- 0x62 JAM (R357). -/
def execJam62 (s : State) : Result := .next (haltIllegal 0x62#8 s)

/-- 0x72 JAM (R357). -/
def execJam72 (s : State) : Result := .next (haltIllegal 0x72#8 s)

/-- 0x92 JAM (R357). -/
def execJam92 (s : State) : Result := .next (haltIllegal 0x92#8 s)

/-- 0xB2 JAM (R357). -/
def execJamB2 (s : State) : Result := .next (haltIllegal 0xB2#8 s)

/-- 0xD2 JAM (R357). -/
def execJamD2 (s : State) : Result := .next (haltIllegal 0xD2#8 s)

/-- 0xF2 JAM (R357). -/
def execJamF2 (s : State) : Result := .next (haltIllegal 0xF2#8 s)

/-- 0x8B ANE (R357). -/
def execAne (s : State) : Result := .next (haltIllegal 0x8B#8 s)

/-- 0xAB LXA (R357). -/
def execLxa (s : State) : Result := .next (haltIllegal 0xAB#8 s)

/-- 0x93 SHA (R357). -/
def execSha93 (s : State) : Result := .next (haltIllegal 0x93#8 s)

/-- 0x9F SHA (R357). -/
def execSha9F (s : State) : Result := .next (haltIllegal 0x9F#8 s)

/-- 0x9E SHX (R357). -/
def execShx (s : State) : Result := .next (haltIllegal 0x9E#8 s)

/-- 0x9C SHY (R357). -/
def execShy (s : State) : Result := .next (haltIllegal 0x9C#8 s)

/-- 0x9B TAS (R357). -/
def execTas (s : State) : Result := .next (haltIllegal 0x9B#8 s)

end Sys2Proof.Machine
end

