-- ==== Sys2Proof/Machine/Dispatch.lean ====
section
/-! DEFINITION. exec: one arm per constructor of Instr, each a direct call of the meaning (spec/60_exceptions.md R609). -/

namespace Sys2Proof.Machine

def exec (i : Instr) (s : State) : Host.Outcome State Fault Refusal :=
  match i with
  | .ldaIzx z => Sys2Proof.Machine.execLdaIzx z s
  | .ldaZp z => Sys2Proof.Machine.execLdaZp z s
  | .ldaImm b => Sys2Proof.Machine.execLdaImm b s
  | .ldaAbs w => Sys2Proof.Machine.execLdaAbs w s
  | .ldaIzy z => Sys2Proof.Machine.execLdaIzy z s
  | .ldaZpx z => Sys2Proof.Machine.execLdaZpx z s
  | .ldaAbsy w => Sys2Proof.Machine.execLdaAbsy w s
  | .ldaAbsx w => Sys2Proof.Machine.execLdaAbsx w s
  | .ldxImm b => Sys2Proof.Machine.execLdxImm b s
  | .ldxZp z => Sys2Proof.Machine.execLdxZp z s
  | .ldxAbs w => Sys2Proof.Machine.execLdxAbs w s
  | .ldxZpy z => Sys2Proof.Machine.execLdxZpy z s
  | .ldxAbsy w => Sys2Proof.Machine.execLdxAbsy w s
  | .ldyImm b => Sys2Proof.Machine.execLdyImm b s
  | .ldyZp z => Sys2Proof.Machine.execLdyZp z s
  | .ldyAbs w => Sys2Proof.Machine.execLdyAbs w s
  | .ldyZpx z => Sys2Proof.Machine.execLdyZpx z s
  | .ldyAbsx w => Sys2Proof.Machine.execLdyAbsx w s
  | .staIzx z => Sys2Proof.Machine.execStaIzx z s
  | .staZp z => Sys2Proof.Machine.execStaZp z s
  | .staAbs w => Sys2Proof.Machine.execStaAbs w s
  | .staIzy z => Sys2Proof.Machine.execStaIzy z s
  | .staZpx z => Sys2Proof.Machine.execStaZpx z s
  | .staAbsy w => Sys2Proof.Machine.execStaAbsy w s
  | .staAbsx w => Sys2Proof.Machine.execStaAbsx w s
  | .stxZp z => Sys2Proof.Machine.execStxZp z s
  | .stxAbs w => Sys2Proof.Machine.execStxAbs w s
  | .stxZpy z => Sys2Proof.Machine.execStxZpy z s
  | .styZp z => Sys2Proof.Machine.execStyZp z s
  | .styAbs w => Sys2Proof.Machine.execStyAbs w s
  | .styZpx z => Sys2Proof.Machine.execStyZpx z s
  | .adcIzx z => Sys2Proof.Machine.execAdcIzx z s
  | .adcZp z => Sys2Proof.Machine.execAdcZp z s
  | .adcImm b => Sys2Proof.Machine.execAdcImm b s
  | .adcAbs w => Sys2Proof.Machine.execAdcAbs w s
  | .adcIzy z => Sys2Proof.Machine.execAdcIzy z s
  | .adcZpx z => Sys2Proof.Machine.execAdcZpx z s
  | .adcAbsy w => Sys2Proof.Machine.execAdcAbsy w s
  | .adcAbsx w => Sys2Proof.Machine.execAdcAbsx w s
  | .sbcIzx z => Sys2Proof.Machine.execSbcIzx z s
  | .sbcZp z => Sys2Proof.Machine.execSbcZp z s
  | .sbcImm b => Sys2Proof.Machine.execSbcImm b s
  | .sbcAbs w => Sys2Proof.Machine.execSbcAbs w s
  | .sbcIzy z => Sys2Proof.Machine.execSbcIzy z s
  | .sbcZpx z => Sys2Proof.Machine.execSbcZpx z s
  | .sbcAbsy w => Sys2Proof.Machine.execSbcAbsy w s
  | .sbcAbsx w => Sys2Proof.Machine.execSbcAbsx w s
  | .andIzx z => Sys2Proof.Machine.execAndIzx z s
  | .andZp z => Sys2Proof.Machine.execAndZp z s
  | .andImm b => Sys2Proof.Machine.execAndImm b s
  | .andAbs w => Sys2Proof.Machine.execAndAbs w s
  | .andIzy z => Sys2Proof.Machine.execAndIzy z s
  | .andZpx z => Sys2Proof.Machine.execAndZpx z s
  | .andAbsy w => Sys2Proof.Machine.execAndAbsy w s
  | .andAbsx w => Sys2Proof.Machine.execAndAbsx w s
  | .oraIzx z => Sys2Proof.Machine.execOraIzx z s
  | .oraZp z => Sys2Proof.Machine.execOraZp z s
  | .oraImm b => Sys2Proof.Machine.execOraImm b s
  | .oraAbs w => Sys2Proof.Machine.execOraAbs w s
  | .oraIzy z => Sys2Proof.Machine.execOraIzy z s
  | .oraZpx z => Sys2Proof.Machine.execOraZpx z s
  | .oraAbsy w => Sys2Proof.Machine.execOraAbsy w s
  | .oraAbsx w => Sys2Proof.Machine.execOraAbsx w s
  | .eorIzx z => Sys2Proof.Machine.execEorIzx z s
  | .eorZp z => Sys2Proof.Machine.execEorZp z s
  | .eorImm b => Sys2Proof.Machine.execEorImm b s
  | .eorAbs w => Sys2Proof.Machine.execEorAbs w s
  | .eorIzy z => Sys2Proof.Machine.execEorIzy z s
  | .eorZpx z => Sys2Proof.Machine.execEorZpx z s
  | .eorAbsy w => Sys2Proof.Machine.execEorAbsy w s
  | .eorAbsx w => Sys2Proof.Machine.execEorAbsx w s
  | .cmpIzx z => Sys2Proof.Machine.execCmpIzx z s
  | .cmpZp z => Sys2Proof.Machine.execCmpZp z s
  | .cmpImm b => Sys2Proof.Machine.execCmpImm b s
  | .cmpAbs w => Sys2Proof.Machine.execCmpAbs w s
  | .cmpIzy z => Sys2Proof.Machine.execCmpIzy z s
  | .cmpZpx z => Sys2Proof.Machine.execCmpZpx z s
  | .cmpAbsy w => Sys2Proof.Machine.execCmpAbsy w s
  | .cmpAbsx w => Sys2Proof.Machine.execCmpAbsx w s
  | .cpxImm b => Sys2Proof.Machine.execCpxImm b s
  | .cpxZp z => Sys2Proof.Machine.execCpxZp z s
  | .cpxAbs w => Sys2Proof.Machine.execCpxAbs w s
  | .cpyImm b => Sys2Proof.Machine.execCpyImm b s
  | .cpyZp z => Sys2Proof.Machine.execCpyZp z s
  | .cpyAbs w => Sys2Proof.Machine.execCpyAbs w s
  | .bitZp z => Sys2Proof.Machine.execBitZp z s
  | .bitAbs w => Sys2Proof.Machine.execBitAbs w s
  | .incZp z => Sys2Proof.Machine.execIncZp z s
  | .incAbs w => Sys2Proof.Machine.execIncAbs w s
  | .incZpx z => Sys2Proof.Machine.execIncZpx z s
  | .incAbsx w => Sys2Proof.Machine.execIncAbsx w s
  | .decZp z => Sys2Proof.Machine.execDecZp z s
  | .decAbs w => Sys2Proof.Machine.execDecAbs w s
  | .decZpx z => Sys2Proof.Machine.execDecZpx z s
  | .decAbsx w => Sys2Proof.Machine.execDecAbsx w s
  | .aslZp z => Sys2Proof.Machine.execAslZp z s
  | .aslAbs w => Sys2Proof.Machine.execAslAbs w s
  | .aslZpx z => Sys2Proof.Machine.execAslZpx z s
  | .aslAbsx w => Sys2Proof.Machine.execAslAbsx w s
  | .lsrZp z => Sys2Proof.Machine.execLsrZp z s
  | .lsrAbs w => Sys2Proof.Machine.execLsrAbs w s
  | .lsrZpx z => Sys2Proof.Machine.execLsrZpx z s
  | .lsrAbsx w => Sys2Proof.Machine.execLsrAbsx w s
  | .rolZp z => Sys2Proof.Machine.execRolZp z s
  | .rolAbs w => Sys2Proof.Machine.execRolAbs w s
  | .rolZpx z => Sys2Proof.Machine.execRolZpx z s
  | .rolAbsx w => Sys2Proof.Machine.execRolAbsx w s
  | .rorZp z => Sys2Proof.Machine.execRorZp z s
  | .rorAbs w => Sys2Proof.Machine.execRorAbs w s
  | .rorZpx z => Sys2Proof.Machine.execRorZpx z s
  | .rorAbsx w => Sys2Proof.Machine.execRorAbsx w s
  | .jmpAbs w => Sys2Proof.Machine.execJmpAbs w s
  | .jmpInd w => Sys2Proof.Machine.execJmpInd w s
  | .jsr w => Sys2Proof.Machine.execJsr w s
  | .bcc r => Sys2Proof.Machine.execBcc r s
  | .bcs r => Sys2Proof.Machine.execBcs r s
  | .beq r => Sys2Proof.Machine.execBeq r s
  | .bne r => Sys2Proof.Machine.execBne r s
  | .bmi r => Sys2Proof.Machine.execBmi r s
  | .bpl r => Sys2Proof.Machine.execBpl r s
  | .bvc r => Sys2Proof.Machine.execBvc r s
  | .bvs r => Sys2Proof.Machine.execBvs r s
  | .laxIzx z => Sys2Proof.Machine.execLaxIzx z s
  | .laxZp z => Sys2Proof.Machine.execLaxZp z s
  | .laxAbs w => Sys2Proof.Machine.execLaxAbs w s
  | .laxIzy z => Sys2Proof.Machine.execLaxIzy z s
  | .laxZpy z => Sys2Proof.Machine.execLaxZpy z s
  | .laxAbsy w => Sys2Proof.Machine.execLaxAbsy w s
  | .saxIzx z => Sys2Proof.Machine.execSaxIzx z s
  | .saxZp z => Sys2Proof.Machine.execSaxZp z s
  | .saxAbs w => Sys2Proof.Machine.execSaxAbs w s
  | .saxZpy z => Sys2Proof.Machine.execSaxZpy z s
  | .dcpIzx z => Sys2Proof.Machine.execDcpIzx z s
  | .dcpZp z => Sys2Proof.Machine.execDcpZp z s
  | .dcpAbs w => Sys2Proof.Machine.execDcpAbs w s
  | .dcpIzy z => Sys2Proof.Machine.execDcpIzy z s
  | .dcpZpx z => Sys2Proof.Machine.execDcpZpx z s
  | .dcpAbsy w => Sys2Proof.Machine.execDcpAbsy w s
  | .dcpAbsx w => Sys2Proof.Machine.execDcpAbsx w s
  | .isbIzx z => Sys2Proof.Machine.execIsbIzx z s
  | .isbZp z => Sys2Proof.Machine.execIsbZp z s
  | .isbAbs w => Sys2Proof.Machine.execIsbAbs w s
  | .isbIzy z => Sys2Proof.Machine.execIsbIzy z s
  | .isbZpx z => Sys2Proof.Machine.execIsbZpx z s
  | .isbAbsy w => Sys2Proof.Machine.execIsbAbsy w s
  | .isbAbsx w => Sys2Proof.Machine.execIsbAbsx w s
  | .sloIzx z => Sys2Proof.Machine.execSloIzx z s
  | .sloZp z => Sys2Proof.Machine.execSloZp z s
  | .sloAbs w => Sys2Proof.Machine.execSloAbs w s
  | .sloIzy z => Sys2Proof.Machine.execSloIzy z s
  | .sloZpx z => Sys2Proof.Machine.execSloZpx z s
  | .sloAbsy w => Sys2Proof.Machine.execSloAbsy w s
  | .sloAbsx w => Sys2Proof.Machine.execSloAbsx w s
  | .rlaIzx z => Sys2Proof.Machine.execRlaIzx z s
  | .rlaZp z => Sys2Proof.Machine.execRlaZp z s
  | .rlaAbs w => Sys2Proof.Machine.execRlaAbs w s
  | .rlaIzy z => Sys2Proof.Machine.execRlaIzy z s
  | .rlaZpx z => Sys2Proof.Machine.execRlaZpx z s
  | .rlaAbsy w => Sys2Proof.Machine.execRlaAbsy w s
  | .rlaAbsx w => Sys2Proof.Machine.execRlaAbsx w s
  | .sreIzx z => Sys2Proof.Machine.execSreIzx z s
  | .sreZp z => Sys2Proof.Machine.execSreZp z s
  | .sreAbs w => Sys2Proof.Machine.execSreAbs w s
  | .sreIzy z => Sys2Proof.Machine.execSreIzy z s
  | .sreZpx z => Sys2Proof.Machine.execSreZpx z s
  | .sreAbsy w => Sys2Proof.Machine.execSreAbsy w s
  | .sreAbsx w => Sys2Proof.Machine.execSreAbsx w s
  | .rraIzx z => Sys2Proof.Machine.execRraIzx z s
  | .rraZp z => Sys2Proof.Machine.execRraZp z s
  | .rraAbs w => Sys2Proof.Machine.execRraAbs w s
  | .rraIzy z => Sys2Proof.Machine.execRraIzy z s
  | .rraZpx z => Sys2Proof.Machine.execRraZpx z s
  | .rraAbsy w => Sys2Proof.Machine.execRraAbsy w s
  | .rraAbsx w => Sys2Proof.Machine.execRraAbsx w s
  | .sbcImmEB b => Sys2Proof.Machine.execSbcImmEB b s
  | .nopImm80 b => Sys2Proof.Machine.execNopImm80 b s
  | .nopImm82 b => Sys2Proof.Machine.execNopImm82 b s
  | .nopImm89 b => Sys2Proof.Machine.execNopImm89 b s
  | .nopImmC2 b => Sys2Proof.Machine.execNopImmC2 b s
  | .nopImmE2 b => Sys2Proof.Machine.execNopImmE2 b s
  | .nopZp04 z => Sys2Proof.Machine.execNopZp04 z s
  | .nopAbs w => Sys2Proof.Machine.execNopAbs w s
  | .nopZpx14 z => Sys2Proof.Machine.execNopZpx14 z s
  | .nopAbsx1C w => Sys2Proof.Machine.execNopAbsx1C w s
  | .nopZpx34 z => Sys2Proof.Machine.execNopZpx34 z s
  | .nopAbsx3C w => Sys2Proof.Machine.execNopAbsx3C w s
  | .nopZp44 z => Sys2Proof.Machine.execNopZp44 z s
  | .nopZpx54 z => Sys2Proof.Machine.execNopZpx54 z s
  | .nopAbsx5C w => Sys2Proof.Machine.execNopAbsx5C w s
  | .nopZp64 z => Sys2Proof.Machine.execNopZp64 z s
  | .nopZpx74 z => Sys2Proof.Machine.execNopZpx74 z s
  | .nopAbsx7C w => Sys2Proof.Machine.execNopAbsx7C w s
  | .nopZpxD4 z => Sys2Proof.Machine.execNopZpxD4 z s
  | .nopAbsxDC w => Sys2Proof.Machine.execNopAbsxDC w s
  | .nopZpxF4 z => Sys2Proof.Machine.execNopZpxF4 z s
  | .nopAbsxFC w => Sys2Proof.Machine.execNopAbsxFC w s
  | .ancImm0B b => Sys2Proof.Machine.execAncImm0B b s
  | .ancImm2B b => Sys2Proof.Machine.execAncImm2B b s
  | .alrImm b => Sys2Proof.Machine.execAlrImm b s
  | .arrImm b => Sys2Proof.Machine.execArrImm b s
  | .sbxImm b => Sys2Proof.Machine.execSbxImm b s
  | .lasAbsy w => Sys2Proof.Machine.execLasAbsy w s
  | .tax => Sys2Proof.Machine.execTax s
  | .tay => Sys2Proof.Machine.execTay s
  | .txa => Sys2Proof.Machine.execTxa s
  | .tya => Sys2Proof.Machine.execTya s
  | .tsx => Sys2Proof.Machine.execTsx s
  | .txs => Sys2Proof.Machine.execTxs s
  | .pha => Sys2Proof.Machine.execPha s
  | .php => Sys2Proof.Machine.execPhp s
  | .pla => Sys2Proof.Machine.execPla s
  | .plp => Sys2Proof.Machine.execPlp s
  | .inx => Sys2Proof.Machine.execInx s
  | .iny => Sys2Proof.Machine.execIny s
  | .dex => Sys2Proof.Machine.execDex s
  | .dey => Sys2Proof.Machine.execDey s
  | .aslAcc => Sys2Proof.Machine.execAslAcc s
  | .lsrAcc => Sys2Proof.Machine.execLsrAcc s
  | .rolAcc => Sys2Proof.Machine.execRolAcc s
  | .rorAcc => Sys2Proof.Machine.execRorAcc s
  | .rts => Sys2Proof.Machine.execRts s
  | .rti => Sys2Proof.Machine.execRti s
  | .brk => Sys2Proof.Machine.execBrk s
  | .clc => Sys2Proof.Machine.execClc s
  | .sec => Sys2Proof.Machine.execSec s
  | .cli => Sys2Proof.Machine.execCli s
  | .sei => Sys2Proof.Machine.execSei s
  | .clv => Sys2Proof.Machine.execClv s
  | .cld => Sys2Proof.Machine.execCld s
  | .sed => Sys2Proof.Machine.execSed s
  | .nop => Sys2Proof.Machine.execNop s
  | .nop1A => Sys2Proof.Machine.execNop1A s
  | .nop3A => Sys2Proof.Machine.execNop3A s
  | .nop5A => Sys2Proof.Machine.execNop5A s
  | .nop7A => Sys2Proof.Machine.execNop7A s
  | .nopDA => Sys2Proof.Machine.execNopDA s
  | .nopFA => Sys2Proof.Machine.execNopFA s
  | .jam02 => Sys2Proof.Machine.execJam02 s
  | .jam12 => Sys2Proof.Machine.execJam12 s
  | .jam22 => Sys2Proof.Machine.execJam22 s
  | .jam32 => Sys2Proof.Machine.execJam32 s
  | .jam42 => Sys2Proof.Machine.execJam42 s
  | .jam52 => Sys2Proof.Machine.execJam52 s
  | .jam62 => Sys2Proof.Machine.execJam62 s
  | .jam72 => Sys2Proof.Machine.execJam72 s
  | .ane => Sys2Proof.Machine.execAne s
  | .jam92 => Sys2Proof.Machine.execJam92 s
  | .sha93 => Sys2Proof.Machine.execSha93 s
  | .tas => Sys2Proof.Machine.execTas s
  | .shy => Sys2Proof.Machine.execShy s
  | .shx => Sys2Proof.Machine.execShx s
  | .sha9F => Sys2Proof.Machine.execSha9F s
  | .lxa => Sys2Proof.Machine.execLxa s
  | .jamB2 => Sys2Proof.Machine.execJamB2 s
  | .jamD2 => Sys2Proof.Machine.execJamD2 s
  | .jamF2 => Sys2Proof.Machine.execJamF2 s

end Sys2Proof.Machine
end

