-- ==== Sys2Proof/Machine/StepOps.lean ====
section
/-! DEFINITION. The parts of the step procedure around an instruction or an interrupt entry (spec/60_exceptions.md R600, R601,
R608, R610, R611), and placing an instruction where a step fetches. -/

namespace Sys2Proof.Machine

/-- A step while paused (R601): nothing is read or written and 0 is returned. -/
def pausedStep (s : State) : State := { s with stepCycles := 0, trace := [] }

/-- The start of a step: no access made yet, no cycle counted. -/
def beginStep (s : State) : State := { s with stepCycles := 0, trace := [] }

/-- The NMI countdown (R610) and the running total (R600), with the step's cycle count. -/
def account (nmiTaken : Bool) (s : State) : State :=
  { s with
    nmiDelay := if s.nmiPending && !nmiTaken then s.nmiDelay - (s.stepCycles : Int) else s.nmiDelay
    cycleTotal := s.cycleTotal + s.stepCycles }

/-- Whether a bus access of the step is watched (R611). -/
def BusAccess.watched (d : Debug) : BusAccess → Bool
  | .read a => d.readWatch.contains a
  | .write a _ => d.writeWatch.contains a

/-- Whether the debug check of R611 pauses the CPU. -/
def debugHit (nmiTaken irqTaken : Bool) (s : State) : Bool :=
  s.debugCfg.breakpoints.contains s.cpu.pc || (nmiTaken && s.debugCfg.breakOnNmi) || (irqTaken && s.debugCfg.breakOnIrq)
    || s.trace.any (BusAccess.watched s.debugCfg)

/-- `DebugCheck` (R611). -/
def debugCheck (nmiTaken irqTaken : Bool) (s : State) : State :=
  { s with paused := s.paused || debugHit nmiTaken irqTaken s }

/-- The end of a step that serviced an interrupt or executed an instruction (R600, R610, R611). -/
def finishStep (nmiTaken irqTaken : Bool) (s : State) : State := debugCheck nmiTaken irqTaken (account nmiTaken s)

/-- The end of a stall step: counted, but no debug check (R611; notes/assumptions/17). -/
def finishStall (s : State) : State := account false s

/-- The end of an instruction step: a halt skips R610 and R611 (R608), every other instruction runs them. -/
def finishInstr : Result → Result
  | .next s => .next (if s.paused then s else finishStep false false s)
  | .fault f => .fault f
  | .refused r => .refused r

/-- Make `v` the byte that a bus read at `a` returns: stored in the array the block's read handler reads, or, where that
is a device or a stub, in the flat harness with its handler installed in the block. -/
def placeByte (a : Word) (v : Byte) (s : State) : State :=
  match s.readSlot[blockOf a] with
  | .ram => { s with ram := s.ram.write (ramIndex a) v }
  | .prgRam => { s with prgRam := s.prgRam.write (prgRamIndex a) v }
  | .cartridge => { s with cart := { s.cart with prg := s.cart.prg.write (prgOffset s.mapper s.cart.prgBanks a) v } }
  | .flat => { s with flat := s.flat.write a.toNat v }
  | .unmapped => { s with readSlot := s.readSlot.set (blockOf a) .flat, flat := s.flat.write a.toNat v }
  | .ppu => { s with readSlot := s.readSlot.set (blockOf a) .flat, flat := s.flat.write a.toNat v }
  | .apuIo => { s with readSlot := s.readSlot.set (blockOf a) .flat, flat := s.flat.write a.toNat v }
  | .mapperDevice => { s with readSlot := s.readSlot.set (blockOf a) .flat, flat := s.flat.write a.toNat v }

/-- Place bytes at consecutive addresses. -/
def placeBytes : Word → List Byte → State → State
  | _, [], s => s
  | a, v :: rest, s => placeBytes (a + 1#16) rest (placeByte a v s)

/-- No pause, interrupt or stall stands before the next instruction. -/
def readyToFetch (s : State) : State :=
  { s with paused := false, nmiPending := false, nmiDelay := 0, irqRequest := 0#3, stallCycles := 0 }

end Sys2Proof.Machine
end

