-- ==== Sys2Proof/Machine/Step.lean ====
section
/-! DEFINITION. One step (spec/60_exceptions.md R600, R617): nothing while paused, else a due NMI, else an unmasked IRQ, else
the DMA stall, else the instruction at PC. -/

namespace Sys2Proof.Machine

/-- `step()` (R600). The cycle count it returns is `stepCycles` of the next state. -/
def step (s : State) : Host.Outcome State Fault Refusal :=
  if s.paused then .next (pausedStep s)
  else
    let b := beginStep s
    if nmiDue b then .next (finishStep true false (serviceNmi b))
    else if irqDue b then .next (finishStep false true (serviceIrq b))
    else if 0 < b.stallCycles then .next (finishStall (consumeStall b))
    else
      let f := fetchInstr b
      finishInstr (exec f.1 f.2)

/-- `s` with a table word placed where the next step fetches, and nothing that stands before the fetch
(notes/assumptions/2). -/
def State.withFetchWord (s : State) (nbits w : Nat) : State :=
  placeBytes s.cpu.pc (tableBytes nbits w) (readyToFetch s)

end Sys2Proof.Machine
end

