-- ==== Sys2Proof/Machine/HostOps.lean ====
section
/-! DEFINITION. What the host calls between steps (spec/60_exceptions.md R612 to R615, R625, R637 to R643, R646, R647,
spec/70_reset_and_hazards.md R700 to R703, spec/10_state.md R50, R65): reset, interrupt and stall requests, pause and
debug, the PPU scanline tick, the mapper contract, save and load, and the power-on state. -/

namespace Sys2Proof.Machine

/-- `cpu.reset()` (R700, R701): the vector reads are ordinary bus reads; nothing is pushed, no cycle is counted. The two
reads belong to no step and are not in the trace (notes/assumptions/18). -/
def cpuReset (s : State) : State :=
  let s1 := (s.setSp (s.cpu.sp - 3#8)).setFlags { s.cpu.p with i := true }
  let lo := busRead resetVector s1
  let hi := busRead (resetVector + 1#16) lo.2
  { hi.2.setPc (joinBytes hi.1 lo.1) with nmiPending := false, nmiDelay := 0, irqRequest := 0#3, stallCycles := 0 }

/-- The flags at construction (R66): R is 1 and the rest 0. -/
def Flags.construction : Flags :=
  { c := false, z := false, i := false, d := false, b := false, r := true, v := false, n := false }

/-- The mirroring descriptor of a cartridge (R636): horizontal 0x50, vertical 0x44. -/
def Cartridge.mirror (c : Cartridge) : Byte := if c.verticalMirror then 0x44#8 else 0x50#8

/-- The machine at power-on with a cartridge and the RAM_INIT contents (R66, R630, R702): constructed and with its devices
installed, before the first reset. -/
def State.powerOn (cart : Cartridge) (mapper : Mapper) (ramInit : Memory) : State :=
  installDevices
    { State.reset with
      cpu := { a := 0#8, x := 0#8, y := 0#8, sp := 0#8, pc := 0#16, p := Flags.construction }
      ram := ramInit, ppu := Ppu.powerOn cart.mirror, cart := cart, mapper := mapper }

/-- The source a host call names by number; any other number is refused (R613, D31). -/
def IrqSource.ofNat? : Nat → Option IrqSource
  | 0 => some .apuFrame
  | 1 => some .external
  | 2 => some .disk
  | _ => none

/-- `requestIrq(source)` (R613). -/
def requestIrq (source : Nat) (s : State) : Result :=
  match IrqSource.ofNat? source with
  | some q => .next (assertIrq q s)
  | none => .refused (.irqSource source)

/-- `clearIrqRequest(source)` (R614). -/
def clearIrqRequest (source : Nat) (s : State) : Result :=
  match IrqSource.ofNat? source with
  | some q => .next (withdrawIrq q s)
  | none => .refused (.irqSource source)

/-- `cpu.pause()` and `cpu.resume()` (R646). -/
def setPaused (p : Bool) (s : State) : State := { s with paused := p }

/-- The breakpoint and watch setters (R62, R625). -/
def setDebug (d : Debug) (s : State) : State := { s with debugCfg := d }

/-- The packed status the host's register getter returns (R50). -/
def hostStatus (s : State) : Byte := packStored s.cpu.p

/-! ## The PPU driven by the host -/

/-- Entry to VBlank (R637, R638): the flag, the plain copies of the snapshots and the swap of the event buffers, and the
NMI when CTRL[7] is 1 (notes/assumptions/14). -/
def enterVblank (s : State) : State :=
  let p := s.ppu
  let t := { s with ppu := { p with vblank := true, lastFrame := p.save, save := p.current, finished := p.recording,
                                    recording := [] } }
  if p.current.ctrl.getLsbD 7 then requestNmi t else t

/-- Entry to the pre-render scanline (R637): STATUS[7], [6] and [5] are cleared. -/
def enterPreRender (s : State) : State :=
  { s with ppu := { s.ppu with vblank := false, spriteZero := false, overflow := false } }

/-- Sprite-zero hit and overflow become 1 when the oracle says so, and stay (R637; notes/assumptions/8). -/
def updateSpriteStatus (s : State) : State :=
  let o := Config.spriteStatus s.params.spriteLimit s.ppu s.ppu.scanline
  { s with ppu := { s.ppu with spriteZero := s.ppu.spriteZero || o.1, overflow := s.ppu.overflow || o.2 } }

/-- The scanline index moves on, 0 to 261 and back (R639). -/
def advanceScanline (s : State) : State :=
  { s with ppu := { s.ppu with scanline := if s.ppu.scanline < 261 then s.ppu.scanline + 1 else 0 } }

/-- The PPU's part of the per-scanline tick (R637, R639). -/
def ppuTick (s : State) : State :=
  let t := updateSpriteStatus (advanceScanline s)
  if t.ppu.scanline = 241 then enterVblank t else if t.ppu.scanline = 261 then enterPreRender t else t

/-- `mapper.onHblank(scanline)` (R642, R643): the reference mappers have no counters and do nothing; a mapper of the contract
makes its calls. -/
def onHblank (scanline : Nat) (s : State) : State := mapperInput (.hblank scanline) s

/-- The per-scanline tick of the host (R646): the PPU, then the mapper's hook (notes/assumptions/23). -/
def scanlineTick (s : State) : State :=
  let t := ppuTick s
  onHblank t.ppu.scanline t

/-- What `render` draws from (R638): the finished frame's starting status and its events. The pixels are outside the
spec. -/
def renderInput (s : State) : HStatus × List PpuEvent := (s.ppu.lastFrame, s.ppu.finished)

/-! ## Save and restore -/

/-- The saved state (R65, R647): the CPU tuple, pending events, pause and debug configuration of R65; the PPU, internal RAM and
the mapper's own state with its PRG-RAM; and what a later output depends on beside them, `flat` (a mapper of the contract may
install its handler), `cycleTotal` (the parity of R640) and `deviceLog` (the oracle of R121), without which the law of R647
would fail (notes/assumptions/22). -/
structure Snapshot where
  cpu         : Cpu
  nmiPending  : Bool
  nmiDelay    : Int
  irqRequest  : BitVec 3
  stallCycles : Nat
  paused      : Bool
  debugCfg    : Debug
  ppu         : Ppu
  ram         : Memory
  prgRam      : Memory
  flat        : Memory
  mapper      : Mapper
  cycleTotal  : Nat
  deviceLog   : List DeviceAccess
deriving DecidableEq, Repr

/-- `save()` (R647). -/
def saveState (s : State) : Snapshot :=
  { cpu := s.cpu, nmiPending := s.nmiPending, nmiDelay := s.nmiDelay, irqRequest := s.irqRequest,
    stallCycles := s.stallCycles, paused := s.paused, debugCfg := s.debugCfg, ppu := s.ppu, ram := s.ram,
    prgRam := s.prgRam, flat := s.flat, mapper := s.mapper, cycleTotal := s.cycleTotal, deviceLog := s.deviceLog }

/-- `load(s)` (R647): everything saved is replaced, and the Bus handler table is rebuilt by the same installs, those of the
mapper from its restored state. -/
def loadState (n : Snapshot) (s : State) : State :=
  installDevices
    { s with cpu := n.cpu, nmiPending := n.nmiPending, nmiDelay := n.nmiDelay, irqRequest := n.irqRequest,
             stallCycles := n.stallCycles, paused := n.paused, debugCfg := n.debugCfg, ppu := n.ppu, ram := n.ram,
             prgRam := n.prgRam, flat := n.flat, mapper := n.mapper, cycleTotal := n.cycleTotal, deviceLog := n.deviceLog }

end Sys2Proof.Machine
end

