-- ==== Sys2Proof/Machine/Ines.lean ====
section
/-! DEFINITION. The iNES container and the start of a session (spec/60_exceptions.md R630, R644, R645). -/

namespace Sys2Proof.Machine

/-- The magic of bytes 0 to 3 (R645): N, E, S, 0x1A. -/
def inesMagic : List Byte := [0x4E#8, 0x45#8, 0x53#8, 0x1A#8]

/-- The mapper number (R645): `(header[7] & 0xF0) | (header[6] >> 4)`. -/
def inesMapperNumber (h6 h7 : Byte) : Nat := ((h7 &&& 0xF0#8) ||| (h6 >>> 4)).toNat

/-- The PRG-RAM size of header byte 10 (R645): `64 << (low nibble + high nibble)`. -/
def inesPrgRamSize (h10 : Byte) : Nat := 64 <<< ((h10 &&& 0x0F#8).toNat + (h10 >>> 4).toNat)

/-- The mapper a number names (R644): 0 or 2, with `bank` 0 for UxROM; any other is a load-time failure. -/
def mapperOfNumber : Nat → Option Mapper
  | 0 => some .nrom
  | 2 => some (.uxrom 0)
  | _ => none

/-- What loading an image answers: the cartridge and its mapper, or a failure before any execution begins. -/
inductive Loading where
  | loaded (cart : Cartridge) (mapper : Mapper)
  | failed (why : Refusal)
deriving DecidableEq, Repr

/-- The bytes of an image after its header and trainer (R645): a 512-byte trainer stands first when byte 6 bit 2 is set. That
the trainer's bytes are dropped and placed nowhere is the model's choice (DESIGN CHOICE, notes/assumptions/21). -/
def inesData (h6 : Byte) (image : List Byte) : List Byte := image.drop (if h6.getLsbD 2 then 528 else 16)

/-- Load an iNES image (R644, R645). That an image too short or without a PRG bank is refused, and that bytes left over after
the CHR-ROM are ignored, is the model's choice (DESIGN CHOICE, notes/assumptions/21). -/
def loadImage (image : List Byte) : Loading :=
  let h (i : Nat) : Byte := image.getD i 0#8
  let prgBanks := (h 4).toNat
  let chrBanks := (h 5).toNat
  let data := inesData (h 6) image
  let nes20 : Bool := (h 7).extractLsb' 2 2 == 2#2
  if image.take 4 ≠ inesMagic then .failed .badMagic
  else
    match mapperOfNumber (inesMapperNumber (h 6) (h 7)) with
    | none => .failed (.unsupportedMapper (inesMapperNumber (h 6) (h 7)))
    | some m =>
      if prgBanks = 0 then .failed .noPrgBank
      else if data.length < 16384 * prgBanks + 8192 * chrBanks then .failed .imageTooShort
      else
        .loaded
          { prgBanks := prgBanks, chrBanks := chrBanks
            prg := Memory.ofBytes 0 (data.take (16384 * prgBanks))
            chr := Memory.ofBytes 0 ((data.drop (16384 * prgBanks)).take (8192 * chrBanks))
            verticalMirror := (h 6).getLsbD 0, battery := (h 6).getLsbD 1, nes20 := nes20
            prgRamSize := if nes20 then some (inesPrgRamSize (h 10)) else none } m

/-- The start of a session (R630, R702): load the image, construct and install, then reset once. -/
def startSession (image : List Byte) (ramInit : Memory) : Result :=
  match loadImage image with
  | .loaded cart mapper => .next (cpuReset (State.powerOn cart mapper ramInit))
  | .failed why => .refused why

end Sys2Proof.Machine
end

