-- ==== Sys2Proof/Safety.lean ====
section
/-! DEFINITION. What a well-formed machine state is, which bus addresses are plain memory and which stored byte stands behind
one: the terms the statements use. -/

namespace Sys2Proof.Machine

/-- An array in canonical form with every index inside it. -/
def Memory.ok (size : Nat) (m : Memory) : Bool := m.wf && m.within size

/-- UxROM's bank register names a bank of the cartridge (R644: `bank <- d mod nb`). -/
def Mapper.bankInRange (prgBanks : Nat) : Mapper → Bool
  | .nrom => true
  | .uxrom bank => decide (bank < prgBanks)
  | .contract _ _ _ => true

/-- Whether the mapper can call back into the core from a bus write (R643): one of the contract can, the reference mappers
do not. -/
def Mapper.callsBack : Mapper → Bool
  | .nrom => false
  | .uxrom _ => false
  | .contract _ _ _ => true

/-- The invariant: every array is canonical and inside its size (R631, R633, R636, R644, D23), the cartridge has a PRG bank
and its mapper's bank is one of them (R644, R645), the scanline is 0..261 (R639), and the NMI latch is consistent: the
delay is 0 while no NMI is pending and never above the latch delay (R58, R602, R610, R612). -/
abbrev State.Inv (s : State) : Prop :=
  s.ram.ok 2048 = true ∧ s.prgRam.ok 8192 = true ∧ s.flat.ok 65536 = true ∧
  s.ppu.oam.ok 256 = true ∧ s.ppu.vram.ok 16384 = true ∧
  s.cart.prg.ok (16384 * s.cart.prgBanks) = true ∧ s.cart.chr.ok (8192 * s.cart.chrBanks) = true ∧
  0 < s.cart.prgBanks ∧ s.mapper.bankInRange s.cart.prgBanks = true ∧
  s.ppu.scanline ≤ 261 ∧ (s.nmiPending = false → s.nmiDelay = 0) ∧ s.nmiDelay ≤ nmiLatchDelay

/-- A read slot whose reads change nothing and depend on memory alone: RAM, PRG-RAM, PRG-ROM through the mapper, the flat
harness, and the unmapped-read stub, which answers a constant (R105, R631, R644, D23). -/
def Handler.isPlain : Handler → Bool
  | .ram | .prgRam | .cartridge | .flat | .unmapped => true
  | .ppu | .apuIo | .mapperDevice => false

/-- One stored byte behind a bus address. Addresses that mirror each other name the same place (R631, R644). -/
inductive Place where
  | ram (index : Nat)
  | prgRam (index : Nat)
  | prgRom (offset : Nat)
  | flat (index : Nat)
deriving DecidableEq, Repr

/-- The stored byte a bus read at an address returns, where the slot is memory. -/
def readPlace (a : Word) (s : State) : Option Place :=
  match s.readSlot[blockOf a] with
  | .ram => some (.ram (ramIndex a))
  | .prgRam => some (.prgRam (prgRamIndex a))
  | .cartridge => some (.prgRom (prgOffset s.mapper s.cart.prgBanks a))
  | .flat => some (.flat a.toNat)
  | .unmapped => none
  | .ppu => none
  | .apuIo => none
  | .mapperDevice => none

/-- The stored byte a bus write at an address replaces, where the slot is memory. -/
def writePlace (a : Word) (s : State) : Option Place :=
  match s.writeSlot[blockOf a] with
  | .ram => some (.ram (ramIndex a))
  | .prgRam => some (.prgRam (prgRamIndex a))
  | .flat => some (.flat a.toNat)
  | .cartridge => none
  | .unmapped => none
  | .ppu => none
  | .apuIo => none
  | .mapperDevice => none

/-- A step that is safe in the spec's sense: it answers a next state (no step of this machine stops, R609, R616). -/
def State.Completes (s : State) : Prop := ∃ t, step s = .next t

end Sys2Proof.Machine
end

