-- ==== Sys2Proof/Certificates/Slice0/Obligations.lean ====
section
/-! DEFINITION. The statements for the provers. `Sys2Proof.Rules` writes the spec's own tables and formulas out a second time, from
the encoding lines and the pseudocode of its rules, in integer terms where the spec's prose is in integer terms; the
statements hold the model's `exec`, `step` and bus against them. `b1` and `b2` are the two bytes after the opcode. -/

open Sys2Proof Sys2Proof.Machine

namespace Sys2Proof.Rules

/-! ## The encoding lines of the spec -/

/-- The mark after a base cycle count in an encoding line: none, `+` (one more cycle on a page crossing), `+r` (that, when
RMW_PAGE_PENALTY is true). -/
inductive Plus where
  | never | always | whenRmw
deriving DecidableEq, Repr

/-- One entry of an encoding line: opcode byte, the instruction it stands for, its operand, base cycles, mark. -/
structure Form (α : Type) where
  opcode  : Byte
  instr   : Instr
  operand : α
  cycles  : Nat
  plus    : Plus

/-- The opcode and the operand bytes decode to the form's instruction. -/
def Form.decodes {α : Type} (f : Form α) (b1 b2 : Byte) : Prop := decodeOpcode f.opcode b1 b2 = f.instr

/-- The cycles a page crossing adds (R709). -/
def Form.penalty {α : Type} (f : Form α) (crossed : Bool) (s : State) : Nat :=
  match f.plus with
  | .never => 0
  | .always => if crossed then 1 else 0
  | .whenRmw => if crossed ∧ s.params.rmwPagePenalty = true then 1 else 0

/-- The forms of LDA (R200). -/
def lda (b1 b2 : Byte) : List (Form Source) := [
  ⟨0xA1#8, .ldaIzx b1, .mem (.izx b1), 6, .never⟩,
  ⟨0xA5#8, .ldaZp b1, .mem (.zp b1), 3, .never⟩,
  ⟨0xA9#8, .ldaImm b1, .imm b1, 2, .never⟩,
  ⟨0xAD#8, .ldaAbs (joinBytes b2 b1), .mem (.abs (joinBytes b2 b1)), 4, .never⟩,
  ⟨0xB1#8, .ldaIzy b1, .mem (.izy b1), 5, .always⟩,
  ⟨0xB5#8, .ldaZpx b1, .mem (.zpx b1), 4, .never⟩,
  ⟨0xB9#8, .ldaAbsy (joinBytes b2 b1), .mem (.absy (joinBytes b2 b1)), 4, .always⟩,
  ⟨0xBD#8, .ldaAbsx (joinBytes b2 b1), .mem (.absx (joinBytes b2 b1)), 4, .always⟩]

/-- The forms of LDX (R201). -/
def ldx (b1 b2 : Byte) : List (Form Source) := [
  ⟨0xA2#8, .ldxImm b1, .imm b1, 2, .never⟩,
  ⟨0xA6#8, .ldxZp b1, .mem (.zp b1), 3, .never⟩,
  ⟨0xAE#8, .ldxAbs (joinBytes b2 b1), .mem (.abs (joinBytes b2 b1)), 4, .never⟩,
  ⟨0xB6#8, .ldxZpy b1, .mem (.zpy b1), 4, .never⟩,
  ⟨0xBE#8, .ldxAbsy (joinBytes b2 b1), .mem (.absy (joinBytes b2 b1)), 4, .always⟩]

/-- The forms of LDY (R202). -/
def ldy (b1 b2 : Byte) : List (Form Source) := [
  ⟨0xA0#8, .ldyImm b1, .imm b1, 2, .never⟩,
  ⟨0xA4#8, .ldyZp b1, .mem (.zp b1), 3, .never⟩,
  ⟨0xAC#8, .ldyAbs (joinBytes b2 b1), .mem (.abs (joinBytes b2 b1)), 4, .never⟩,
  ⟨0xB4#8, .ldyZpx b1, .mem (.zpx b1), 4, .never⟩,
  ⟨0xBC#8, .ldyAbsx (joinBytes b2 b1), .mem (.absx (joinBytes b2 b1)), 4, .always⟩]

/-- The forms of ADC (R240). -/
def adc (b1 b2 : Byte) : List (Form Source) := [
  ⟨0x61#8, .adcIzx b1, .mem (.izx b1), 6, .never⟩,
  ⟨0x65#8, .adcZp b1, .mem (.zp b1), 3, .never⟩,
  ⟨0x69#8, .adcImm b1, .imm b1, 2, .never⟩,
  ⟨0x6D#8, .adcAbs (joinBytes b2 b1), .mem (.abs (joinBytes b2 b1)), 4, .never⟩,
  ⟨0x71#8, .adcIzy b1, .mem (.izy b1), 5, .always⟩,
  ⟨0x75#8, .adcZpx b1, .mem (.zpx b1), 4, .never⟩,
  ⟨0x79#8, .adcAbsy (joinBytes b2 b1), .mem (.absy (joinBytes b2 b1)), 4, .always⟩,
  ⟨0x7D#8, .adcAbsx (joinBytes b2 b1), .mem (.absx (joinBytes b2 b1)), 4, .always⟩]

/-- The forms of SBC (R241). -/
def sbc (b1 b2 : Byte) : List (Form Source) := [
  ⟨0xE1#8, .sbcIzx b1, .mem (.izx b1), 6, .never⟩,
  ⟨0xE5#8, .sbcZp b1, .mem (.zp b1), 3, .never⟩,
  ⟨0xE9#8, .sbcImm b1, .imm b1, 2, .never⟩,
  ⟨0xED#8, .sbcAbs (joinBytes b2 b1), .mem (.abs (joinBytes b2 b1)), 4, .never⟩,
  ⟨0xF1#8, .sbcIzy b1, .mem (.izy b1), 5, .always⟩,
  ⟨0xF5#8, .sbcZpx b1, .mem (.zpx b1), 4, .never⟩,
  ⟨0xF9#8, .sbcAbsy (joinBytes b2 b1), .mem (.absy (joinBytes b2 b1)), 4, .always⟩,
  ⟨0xFD#8, .sbcAbsx (joinBytes b2 b1), .mem (.absx (joinBytes b2 b1)), 4, .always⟩]

/-- The forms of AND (R242). -/
def and (b1 b2 : Byte) : List (Form Source) := [
  ⟨0x21#8, .andIzx b1, .mem (.izx b1), 6, .never⟩,
  ⟨0x25#8, .andZp b1, .mem (.zp b1), 3, .never⟩,
  ⟨0x29#8, .andImm b1, .imm b1, 2, .never⟩,
  ⟨0x2D#8, .andAbs (joinBytes b2 b1), .mem (.abs (joinBytes b2 b1)), 4, .never⟩,
  ⟨0x31#8, .andIzy b1, .mem (.izy b1), 5, .always⟩,
  ⟨0x35#8, .andZpx b1, .mem (.zpx b1), 4, .never⟩,
  ⟨0x39#8, .andAbsy (joinBytes b2 b1), .mem (.absy (joinBytes b2 b1)), 4, .always⟩,
  ⟨0x3D#8, .andAbsx (joinBytes b2 b1), .mem (.absx (joinBytes b2 b1)), 4, .always⟩]

/-- The forms of ORA (R243). -/
def ora (b1 b2 : Byte) : List (Form Source) := [
  ⟨0x01#8, .oraIzx b1, .mem (.izx b1), 6, .never⟩,
  ⟨0x05#8, .oraZp b1, .mem (.zp b1), 3, .never⟩,
  ⟨0x09#8, .oraImm b1, .imm b1, 2, .never⟩,
  ⟨0x0D#8, .oraAbs (joinBytes b2 b1), .mem (.abs (joinBytes b2 b1)), 4, .never⟩,
  ⟨0x11#8, .oraIzy b1, .mem (.izy b1), 5, .always⟩,
  ⟨0x15#8, .oraZpx b1, .mem (.zpx b1), 4, .never⟩,
  ⟨0x19#8, .oraAbsy (joinBytes b2 b1), .mem (.absy (joinBytes b2 b1)), 4, .always⟩,
  ⟨0x1D#8, .oraAbsx (joinBytes b2 b1), .mem (.absx (joinBytes b2 b1)), 4, .always⟩]

/-- The forms of EOR (R244). -/
def eor (b1 b2 : Byte) : List (Form Source) := [
  ⟨0x41#8, .eorIzx b1, .mem (.izx b1), 6, .never⟩,
  ⟨0x45#8, .eorZp b1, .mem (.zp b1), 3, .never⟩,
  ⟨0x49#8, .eorImm b1, .imm b1, 2, .never⟩,
  ⟨0x4D#8, .eorAbs (joinBytes b2 b1), .mem (.abs (joinBytes b2 b1)), 4, .never⟩,
  ⟨0x51#8, .eorIzy b1, .mem (.izy b1), 5, .always⟩,
  ⟨0x55#8, .eorZpx b1, .mem (.zpx b1), 4, .never⟩,
  ⟨0x59#8, .eorAbsy (joinBytes b2 b1), .mem (.absy (joinBytes b2 b1)), 4, .always⟩,
  ⟨0x5D#8, .eorAbsx (joinBytes b2 b1), .mem (.absx (joinBytes b2 b1)), 4, .always⟩]

/-- The forms of CMP (R245). -/
def cmp (b1 b2 : Byte) : List (Form Source) := [
  ⟨0xC1#8, .cmpIzx b1, .mem (.izx b1), 6, .never⟩,
  ⟨0xC5#8, .cmpZp b1, .mem (.zp b1), 3, .never⟩,
  ⟨0xC9#8, .cmpImm b1, .imm b1, 2, .never⟩,
  ⟨0xCD#8, .cmpAbs (joinBytes b2 b1), .mem (.abs (joinBytes b2 b1)), 4, .never⟩,
  ⟨0xD1#8, .cmpIzy b1, .mem (.izy b1), 5, .always⟩,
  ⟨0xD5#8, .cmpZpx b1, .mem (.zpx b1), 4, .never⟩,
  ⟨0xD9#8, .cmpAbsy (joinBytes b2 b1), .mem (.absy (joinBytes b2 b1)), 4, .always⟩,
  ⟨0xDD#8, .cmpAbsx (joinBytes b2 b1), .mem (.absx (joinBytes b2 b1)), 4, .always⟩]

/-- The forms of CPX (R246). -/
def cpx (b1 b2 : Byte) : List (Form Source) := [
  ⟨0xE0#8, .cpxImm b1, .imm b1, 2, .never⟩,
  ⟨0xE4#8, .cpxZp b1, .mem (.zp b1), 3, .never⟩,
  ⟨0xEC#8, .cpxAbs (joinBytes b2 b1), .mem (.abs (joinBytes b2 b1)), 4, .never⟩]

/-- The forms of CPY (R247). -/
def cpy (b1 b2 : Byte) : List (Form Source) := [
  ⟨0xC0#8, .cpyImm b1, .imm b1, 2, .never⟩,
  ⟨0xC4#8, .cpyZp b1, .mem (.zp b1), 3, .never⟩,
  ⟨0xCC#8, .cpyAbs (joinBytes b2 b1), .mem (.abs (joinBytes b2 b1)), 4, .never⟩]

/-- The forms of BIT (R248). -/
def bit (b1 b2 : Byte) : List (Form Source) := [
  ⟨0x24#8, .bitZp b1, .mem (.zp b1), 3, .never⟩,
  ⟨0x2C#8, .bitAbs (joinBytes b2 b1), .mem (.abs (joinBytes b2 b1)), 4, .never⟩]

/-- The forms of LAX (R340). -/
def lax (b1 b2 : Byte) : List (Form Source) := [
  ⟨0xA3#8, .laxIzx b1, .mem (.izx b1), 6, .never⟩,
  ⟨0xA7#8, .laxZp b1, .mem (.zp b1), 3, .never⟩,
  ⟨0xAF#8, .laxAbs (joinBytes b2 b1), .mem (.abs (joinBytes b2 b1)), 4, .never⟩,
  ⟨0xB3#8, .laxIzy b1, .mem (.izy b1), 5, .always⟩,
  ⟨0xB7#8, .laxZpy b1, .mem (.zpy b1), 4, .never⟩,
  ⟨0xBF#8, .laxAbsy (joinBytes b2 b1), .mem (.absy (joinBytes b2 b1)), 4, .always⟩]

/-- The SBC duplicate (R348). -/
def sbcEB (b1 _b2 : Byte) : List (Form Source) := [
  ⟨0xEB#8, .sbcImmEB b1, .imm b1, 2, .never⟩]

/-- The two-byte NOPs (R350). -/
def nopImm (b1 _b2 : Byte) : List (Form Source) := [
  ⟨0x80#8, .nopImm80 b1, .imm b1, 2, .never⟩,
  ⟨0x82#8, .nopImm82 b1, .imm b1, 2, .never⟩,
  ⟨0x89#8, .nopImm89 b1, .imm b1, 2, .never⟩,
  ⟨0xC2#8, .nopImmC2 b1, .imm b1, 2, .never⟩,
  ⟨0xE2#8, .nopImmE2 b1, .imm b1, 2, .never⟩]

/-- The NOPs that read memory (R351). -/
def nopMem (b1 b2 : Byte) : List (Form Source) := [
  ⟨0x04#8, .nopZp04 b1, .mem (.zp b1), 3, .never⟩,
  ⟨0x0C#8, .nopAbs (joinBytes b2 b1), .mem (.abs (joinBytes b2 b1)), 4, .never⟩,
  ⟨0x14#8, .nopZpx14 b1, .mem (.zpx b1), 4, .never⟩,
  ⟨0x1C#8, .nopAbsx1C (joinBytes b2 b1), .mem (.absx (joinBytes b2 b1)), 4, .always⟩,
  ⟨0x34#8, .nopZpx34 b1, .mem (.zpx b1), 4, .never⟩,
  ⟨0x3C#8, .nopAbsx3C (joinBytes b2 b1), .mem (.absx (joinBytes b2 b1)), 4, .always⟩,
  ⟨0x44#8, .nopZp44 b1, .mem (.zp b1), 3, .never⟩,
  ⟨0x54#8, .nopZpx54 b1, .mem (.zpx b1), 4, .never⟩,
  ⟨0x5C#8, .nopAbsx5C (joinBytes b2 b1), .mem (.absx (joinBytes b2 b1)), 4, .always⟩,
  ⟨0x64#8, .nopZp64 b1, .mem (.zp b1), 3, .never⟩,
  ⟨0x74#8, .nopZpx74 b1, .mem (.zpx b1), 4, .never⟩,
  ⟨0x7C#8, .nopAbsx7C (joinBytes b2 b1), .mem (.absx (joinBytes b2 b1)), 4, .always⟩,
  ⟨0xD4#8, .nopZpxD4 b1, .mem (.zpx b1), 4, .never⟩,
  ⟨0xDC#8, .nopAbsxDC (joinBytes b2 b1), .mem (.absx (joinBytes b2 b1)), 4, .always⟩,
  ⟨0xF4#8, .nopZpxF4 b1, .mem (.zpx b1), 4, .never⟩,
  ⟨0xFC#8, .nopAbsxFC (joinBytes b2 b1), .mem (.absx (joinBytes b2 b1)), 4, .always⟩]

/-- The forms of LAS (R356). -/
def las (b1 b2 : Byte) : List (Form Source) := [
  ⟨0xBB#8, .lasAbsy (joinBytes b2 b1), .mem (.absy (joinBytes b2 b1)), 4, .always⟩]

/-- The forms of STA (R203). -/
def sta (b1 b2 : Byte) : List (Form MemOperand) := [
  ⟨0x81#8, .staIzx b1, .izx b1, 6, .never⟩,
  ⟨0x85#8, .staZp b1, .zp b1, 3, .never⟩,
  ⟨0x8D#8, .staAbs (joinBytes b2 b1), .abs (joinBytes b2 b1), 4, .never⟩,
  ⟨0x91#8, .staIzy b1, .izy b1, 6, .never⟩,
  ⟨0x95#8, .staZpx b1, .zpx b1, 4, .never⟩,
  ⟨0x99#8, .staAbsy (joinBytes b2 b1), .absy (joinBytes b2 b1), 5, .never⟩,
  ⟨0x9D#8, .staAbsx (joinBytes b2 b1), .absx (joinBytes b2 b1), 5, .never⟩]

/-- The forms of STX (R204). -/
def stx (b1 b2 : Byte) : List (Form MemOperand) := [
  ⟨0x86#8, .stxZp b1, .zp b1, 3, .never⟩,
  ⟨0x8E#8, .stxAbs (joinBytes b2 b1), .abs (joinBytes b2 b1), 4, .never⟩,
  ⟨0x96#8, .stxZpy b1, .zpy b1, 4, .never⟩]

/-- The forms of STY (R205). -/
def sty (b1 b2 : Byte) : List (Form MemOperand) := [
  ⟨0x84#8, .styZp b1, .zp b1, 3, .never⟩,
  ⟨0x8C#8, .styAbs (joinBytes b2 b1), .abs (joinBytes b2 b1), 4, .never⟩,
  ⟨0x94#8, .styZpx b1, .zpx b1, 4, .never⟩]

/-- The forms of INC (R249). -/
def inc (b1 b2 : Byte) : List (Form MemOperand) := [
  ⟨0xE6#8, .incZp b1, .zp b1, 5, .never⟩,
  ⟨0xEE#8, .incAbs (joinBytes b2 b1), .abs (joinBytes b2 b1), 6, .never⟩,
  ⟨0xF6#8, .incZpx b1, .zpx b1, 6, .never⟩,
  ⟨0xFE#8, .incAbsx (joinBytes b2 b1), .absx (joinBytes b2 b1), 7, .whenRmw⟩]

/-- The forms of DEC (R250). -/
def dec (b1 b2 : Byte) : List (Form MemOperand) := [
  ⟨0xC6#8, .decZp b1, .zp b1, 5, .never⟩,
  ⟨0xCE#8, .decAbs (joinBytes b2 b1), .abs (joinBytes b2 b1), 6, .never⟩,
  ⟨0xD6#8, .decZpx b1, .zpx b1, 6, .never⟩,
  ⟨0xDE#8, .decAbsx (joinBytes b2 b1), .absx (joinBytes b2 b1), 7, .whenRmw⟩]

/-- The memory forms of ASL (R280). -/
def asl (b1 b2 : Byte) : List (Form MemOperand) := [
  ⟨0x06#8, .aslZp b1, .zp b1, 5, .never⟩,
  ⟨0x0E#8, .aslAbs (joinBytes b2 b1), .abs (joinBytes b2 b1), 6, .never⟩,
  ⟨0x16#8, .aslZpx b1, .zpx b1, 6, .never⟩,
  ⟨0x1E#8, .aslAbsx (joinBytes b2 b1), .absx (joinBytes b2 b1), 7, .whenRmw⟩]

/-- The memory forms of LSR (R281). -/
def lsr (b1 b2 : Byte) : List (Form MemOperand) := [
  ⟨0x46#8, .lsrZp b1, .zp b1, 5, .never⟩,
  ⟨0x4E#8, .lsrAbs (joinBytes b2 b1), .abs (joinBytes b2 b1), 6, .never⟩,
  ⟨0x56#8, .lsrZpx b1, .zpx b1, 6, .never⟩,
  ⟨0x5E#8, .lsrAbsx (joinBytes b2 b1), .absx (joinBytes b2 b1), 7, .whenRmw⟩]

/-- The memory forms of ROL (R282). -/
def rol (b1 b2 : Byte) : List (Form MemOperand) := [
  ⟨0x26#8, .rolZp b1, .zp b1, 5, .never⟩,
  ⟨0x2E#8, .rolAbs (joinBytes b2 b1), .abs (joinBytes b2 b1), 6, .never⟩,
  ⟨0x36#8, .rolZpx b1, .zpx b1, 6, .never⟩,
  ⟨0x3E#8, .rolAbsx (joinBytes b2 b1), .absx (joinBytes b2 b1), 7, .whenRmw⟩]

/-- The memory forms of ROR (R283). -/
def ror (b1 b2 : Byte) : List (Form MemOperand) := [
  ⟨0x66#8, .rorZp b1, .zp b1, 5, .never⟩,
  ⟨0x6E#8, .rorAbs (joinBytes b2 b1), .abs (joinBytes b2 b1), 6, .never⟩,
  ⟨0x76#8, .rorZpx b1, .zpx b1, 6, .never⟩,
  ⟨0x7E#8, .rorAbsx (joinBytes b2 b1), .absx (joinBytes b2 b1), 7, .whenRmw⟩]

/-- The forms of SAX (R341). -/
def sax (b1 b2 : Byte) : List (Form MemOperand) := [
  ⟨0x83#8, .saxIzx b1, .izx b1, 6, .never⟩,
  ⟨0x87#8, .saxZp b1, .zp b1, 3, .never⟩,
  ⟨0x8F#8, .saxAbs (joinBytes b2 b1), .abs (joinBytes b2 b1), 4, .never⟩,
  ⟨0x97#8, .saxZpy b1, .zpy b1, 4, .never⟩]

/-- The forms of DCP (R342). -/
def dcp (b1 b2 : Byte) : List (Form MemOperand) := [
  ⟨0xC3#8, .dcpIzx b1, .izx b1, 8, .never⟩,
  ⟨0xC7#8, .dcpZp b1, .zp b1, 5, .never⟩,
  ⟨0xCF#8, .dcpAbs (joinBytes b2 b1), .abs (joinBytes b2 b1), 6, .never⟩,
  ⟨0xD3#8, .dcpIzy b1, .izy b1, 8, .whenRmw⟩,
  ⟨0xD7#8, .dcpZpx b1, .zpx b1, 6, .never⟩,
  ⟨0xDB#8, .dcpAbsy (joinBytes b2 b1), .absy (joinBytes b2 b1), 7, .whenRmw⟩,
  ⟨0xDF#8, .dcpAbsx (joinBytes b2 b1), .absx (joinBytes b2 b1), 7, .whenRmw⟩]

/-- The forms of ISB (R343). -/
def isb (b1 b2 : Byte) : List (Form MemOperand) := [
  ⟨0xE3#8, .isbIzx b1, .izx b1, 8, .never⟩,
  ⟨0xE7#8, .isbZp b1, .zp b1, 5, .never⟩,
  ⟨0xEF#8, .isbAbs (joinBytes b2 b1), .abs (joinBytes b2 b1), 6, .never⟩,
  ⟨0xF3#8, .isbIzy b1, .izy b1, 8, .whenRmw⟩,
  ⟨0xF7#8, .isbZpx b1, .zpx b1, 6, .never⟩,
  ⟨0xFB#8, .isbAbsy (joinBytes b2 b1), .absy (joinBytes b2 b1), 7, .whenRmw⟩,
  ⟨0xFF#8, .isbAbsx (joinBytes b2 b1), .absx (joinBytes b2 b1), 7, .whenRmw⟩]

/-- The forms of SLO (R344). -/
def slo (b1 b2 : Byte) : List (Form MemOperand) := [
  ⟨0x03#8, .sloIzx b1, .izx b1, 8, .never⟩,
  ⟨0x07#8, .sloZp b1, .zp b1, 5, .never⟩,
  ⟨0x0F#8, .sloAbs (joinBytes b2 b1), .abs (joinBytes b2 b1), 6, .never⟩,
  ⟨0x13#8, .sloIzy b1, .izy b1, 8, .whenRmw⟩,
  ⟨0x17#8, .sloZpx b1, .zpx b1, 6, .never⟩,
  ⟨0x1B#8, .sloAbsy (joinBytes b2 b1), .absy (joinBytes b2 b1), 7, .whenRmw⟩,
  ⟨0x1F#8, .sloAbsx (joinBytes b2 b1), .absx (joinBytes b2 b1), 7, .whenRmw⟩]

/-- The forms of RLA (R345). -/
def rla (b1 b2 : Byte) : List (Form MemOperand) := [
  ⟨0x23#8, .rlaIzx b1, .izx b1, 8, .never⟩,
  ⟨0x27#8, .rlaZp b1, .zp b1, 5, .never⟩,
  ⟨0x2F#8, .rlaAbs (joinBytes b2 b1), .abs (joinBytes b2 b1), 6, .never⟩,
  ⟨0x33#8, .rlaIzy b1, .izy b1, 8, .whenRmw⟩,
  ⟨0x37#8, .rlaZpx b1, .zpx b1, 6, .never⟩,
  ⟨0x3B#8, .rlaAbsy (joinBytes b2 b1), .absy (joinBytes b2 b1), 7, .whenRmw⟩,
  ⟨0x3F#8, .rlaAbsx (joinBytes b2 b1), .absx (joinBytes b2 b1), 7, .whenRmw⟩]

/-- The forms of SRE (R346). -/
def sre (b1 b2 : Byte) : List (Form MemOperand) := [
  ⟨0x43#8, .sreIzx b1, .izx b1, 8, .never⟩,
  ⟨0x47#8, .sreZp b1, .zp b1, 5, .never⟩,
  ⟨0x4F#8, .sreAbs (joinBytes b2 b1), .abs (joinBytes b2 b1), 6, .never⟩,
  ⟨0x53#8, .sreIzy b1, .izy b1, 8, .whenRmw⟩,
  ⟨0x57#8, .sreZpx b1, .zpx b1, 6, .never⟩,
  ⟨0x5B#8, .sreAbsy (joinBytes b2 b1), .absy (joinBytes b2 b1), 7, .whenRmw⟩,
  ⟨0x5F#8, .sreAbsx (joinBytes b2 b1), .absx (joinBytes b2 b1), 7, .whenRmw⟩]

/-- The forms of RRA (R347). -/
def rra (b1 b2 : Byte) : List (Form MemOperand) := [
  ⟨0x63#8, .rraIzx b1, .izx b1, 8, .never⟩,
  ⟨0x67#8, .rraZp b1, .zp b1, 5, .never⟩,
  ⟨0x6F#8, .rraAbs (joinBytes b2 b1), .abs (joinBytes b2 b1), 6, .never⟩,
  ⟨0x73#8, .rraIzy b1, .izy b1, 8, .whenRmw⟩,
  ⟨0x77#8, .rraZpx b1, .zpx b1, 6, .never⟩,
  ⟨0x7B#8, .rraAbsy (joinBytes b2 b1), .absy (joinBytes b2 b1), 7, .whenRmw⟩,
  ⟨0x7F#8, .rraAbsx (joinBytes b2 b1), .absx (joinBytes b2 b1), 7, .whenRmw⟩]

/-- The unofficial implied NOPs (R349). -/
def nopImp : List (Byte × Instr) := [
  (0x1A#8, .nop1A), (0x3A#8, .nop3A), (0x5A#8, .nop5A), (0x7A#8, .nop7A), (0xDA#8, .nopDA), (0xFA#8, .nopFA)]

/-- The opcodes whose entry is always the unknown marker (R357). -/
def halting : List (Byte × Instr) := [
  (0x02#8, .jam02), (0x12#8, .jam12), (0x22#8, .jam22), (0x32#8, .jam32), (0x42#8, .jam42), (0x52#8, .jam52),
  (0x62#8, .jam62), (0x72#8, .jam72), (0x8B#8, .ane), (0x92#8, .jam92), (0x93#8, .sha93), (0x9B#8, .tas),
  (0x9C#8, .shy), (0x9E#8, .shx), (0x9F#8, .sha9F), (0xAB#8, .lxa), (0xB2#8, .jamB2), (0xD2#8, .jamD2),
  (0xF2#8, .jamF2)]

/-! ## The formulas of the spec -/

/-- Byte length of an instruction with a memory operand (R151). -/
def memLength : MemOperand → Nat
  | .zp _ | .zpx _ | .zpy _ | .izx _ | .izy _ => 2
  | .abs _ | .absx _ | .absy _ => 3

/-- Byte length of an instruction with a source operand (R151). -/
def sourceLength : Source → Nat
  | .imm _ => 2
  | .mem m => memLength m

/-- Byte length by addressing mode (R151). -/
def modeLength : Mode → Nat
  | .imp | .acc | .unknown => 1
  | .imm | .zp | .zpx | .zpy | .rel | .izx | .izy => 2
  | .abs | .absx | .absy | .ind => 3

/-- Base cycles by class and mode, least and greatest: one value for each memory mode of the classes read, write and
read-modify-write (R171). -/
def cycleRange : AccessClass → Mode → Nat × Nat
  | .read, .zp => (3, 3)
  | .read, .zpx | .read, .zpy | .read, .abs | .read, .absx | .read, .absy => (4, 4)
  | .read, .izx => (6, 6)
  | .read, .izy => (5, 5)
  | .write, .zp => (3, 3)
  | .write, .zpx | .write, .zpy | .write, .abs => (4, 4)
  | .write, .absx | .write, .absy => (5, 5)
  | .write, .izx | .write, .izy => (6, 6)
  | .rmw, .zp => (5, 5)
  | .rmw, .zpx | .rmw, .abs => (6, 6)
  | .rmw, .absx | .rmw, .absy => (7, 7)
  | .rmw, .izx | .rmw, .izy => (8, 8)
  | .none, .imm | .none, .acc => (2, 2)
  | .none, _ => (2, 7)
  | _, _ => (1, 0)

/-- The end of an instruction that began in `s`: the CPU is `c` with `PC <- next`, everything else is as in `t`, and the
step counts `cycles`. -/
def ends (s : State) (length cycles : Nat) (c : Cpu) (t : State) : State :=
  { t with cpu := { c with pc := s.cpu.pc + BitVec.ofNat 16 length }, stepCycles := cycles }

/-- DOC's flag law of loads and results: Z when the byte is 0, N when it is at least 0x80. -/
def nz (v : Byte) (p : Flags) : Flags := { p with z := decide (v.toNat = 0), n := decide (128 ≤ v.toNat) }

/-- One CPU write: the bus write, noted in the trace. -/
def written (a : Word) (v : Byte) (s : State) : State := { busWrite a v s with trace := s.trace ++ [.write a v] }

/-- One CPU read: the byte, and the state with the read noted in the trace. -/
def fetched (a : Word) (s : State) : Byte × State :=
  ((busRead a s).1, { (busRead a s).2 with trace := s.trace ++ [.read a] })

/-- The address of the stack byte S names: page 1 (R44, R111). -/
def page1 (sp : Byte) : Word := BitVec.ofNat 16 (256 + sp.toNat)

/-- `Push(v)` (R17). -/
def pushed (v : Byte) (s : State) : State :=
  let t := written (page1 s.cpu.sp) v s
  { t with cpu := { s.cpu with sp := s.cpu.sp - 1#8 } }

/-- `Pull()` (R17). -/
def pulled (s : State) : Byte × State :=
  fetched (page1 (s.cpu.sp + 1#8)) { s with cpu := { s.cpu with sp := s.cpu.sp + 1#8 } }

/-- The value of the status byte a push with break bit `b` stores (R47, R48). -/
def statusByte (b : Bool) (p : Flags) : Byte :=
  BitVec.ofNat 8 (p.c.toNat + 2 * p.z.toNat + 4 * p.i.toNat + 8 * p.d.toNat + 16 * b.toNat + 32 + 64 * p.v.toNat
    + 128 * p.n.toNat)

/-- The flag cells a pulled byte sets (R47, R49). -/
def statusFlags (v : Byte) : Flags :=
  { c := decide (v.toNat % 2 = 1), z := decide (v.toNat / 2 % 2 = 1), i := decide (v.toNat / 4 % 2 = 1),
    d := decide (v.toNat / 8 % 2 = 1), b := decide (v.toNat / 16 % 2 = 1), r := decide (v.toNat / 32 % 2 = 1),
    v := decide (v.toNat / 64 % 2 = 1), n := decide (v.toNat / 128 % 2 = 1) }

/-- Reading an operand (R19, R155): the immediate byte itself, with no access; or one read at the effective address, with that
address's page crossing. -/
def operandRead (o : Source) (s : State) : Byte × Bool × State :=
  match o with
  | .imm b => (b, false, s)
  | .mem m =>
    let e := effectiveAddress m s
    ((fetched e.addr e.st).1, e.crossed, (fetched e.addr e.st).2)

/-- A form that reads its operand and then changes the CPU by `g`. -/
def Form.reading (f : Form Source) (s : State) (g : Byte → Cpu → Cpu) : State :=
  let r := operandRead f.operand s
  ends s (sourceLength f.operand) (f.cycles + f.penalty r.2.1 s) (g r.1 s.cpu) r.2.2

/-- A pure-write form: no read of the target, no flag, no page-crossing cycle. -/
def Form.storing (f : Form MemOperand) (s : State) (v : Byte) : State :=
  let e := effectiveAddress f.operand s
  ends s (memLength f.operand) f.cycles s.cpu (written e.addr v e.st)

/-- A read-modify-write form: one read, one write of `new old` at the same address, then the CPU changed by `g old`. -/
def Form.modifying (f : Form MemOperand) (s : State) (new : Byte → Byte) (g : Byte → Cpu → Cpu) : State :=
  let e := effectiveAddress f.operand s
  let m := fetched e.addr e.st
  ends s (memLength f.operand) (f.cycles + f.penalty e.crossed s) (g m.1 s.cpu) (written e.addr (new m.1) m.2)

/-- AddCore (R230) on the CPU: the sum as an integer 0..511; V when the operands have the same sign bit and the result's
differs. -/
def addCore (m : Byte) (c : Cpu) : Cpu :=
  let s := c.a.toNat + m.toNat + c.p.c.toNat
  { c with
    a := BitVec.ofNat 8 s
    p := { nz (BitVec.ofNat 8 s) c.p with
           c := decide (255 < s)
           v := decide (c.a.msb = m.msb ∧ (BitVec.ofNat 8 s).msb ≠ c.a.msb) } }

/-- The subtraction of R241 on the CPU: `A - M - (1 - C)` modulo 256, C when there is no borrow, V when the signed
difference is outside -128..127. -/
def subtract (m : Byte) (c : Cpu) : Cpu :=
  let borrow : Nat := if c.p.c then 0 else 1
  let r := BitVec.ofInt 8 ((c.a.toNat : Int) - m.toNat - borrow)
  let signed : Int := c.a.toInt - m.toInt - borrow
  { c with
    a := r
    p := { nz r c.p with
           c := decide (m.toNat + borrow ≤ c.a.toNat)
           v := decide (signed < -128 ∨ 127 < signed) } }

/-- CompareCore (R231): unsigned C, Z on equality, N the sign of the wrapped difference. -/
def compare (r m : Byte) (p : Flags) : Flags :=
  { p with c := decide (m.toNat ≤ r.toNat), z := decide (r = m), n := decide (128 ≤ (r.toNat + 256 - m.toNat) % 256) }

/-- Shift left with a bit coming in (R280, R282): the byte. -/
def leftByte (v : Byte) (inBit : Bool) : Byte := BitVec.ofNat 8 (2 * v.toNat + inBit.toNat)

/-- Shift right with a bit coming in (R281, R283): the byte. -/
def rightByte (v : Byte) (inBit : Bool) : Byte := BitVec.ofNat 8 (v.toNat / 2 + 128 * inBit.toNat)

/-- C from bit 7 of the old byte, N and Z from `r` (R280, R282). -/
def leftFlags (v r : Byte) (p : Flags) : Flags := { nz r p with c := decide (128 ≤ v.toNat) }

/-- C from bit 0 of the old byte, N and Z from `r` (R281, R283). -/
def rightFlags (v r : Byte) (p : Flags) : Flags := { nz r p with c := decide (v.toNat % 2 = 1) }

/-! ## What a rule names, for the frames -/

/-- The registers and flags a rule writes beside PC; `br` stands for the B and R cells. -/
structure Writes where
  a  : Bool := false
  x  : Bool := false
  y  : Bool := false
  sp : Bool := false
  c  : Bool := false
  z  : Bool := false
  i  : Bool := false
  d  : Bool := false
  v  : Bool := false
  n  : Bool := false
  br : Bool := false

/-- Every register and flag the rule does not name is unchanged. -/
def Writes.Frame (w : Writes) (c c' : Cpu) : Prop :=
  (w.a = false → c'.a = c.a) ∧ (w.x = false → c'.x = c.x) ∧ (w.y = false → c'.y = c.y) ∧ (w.sp = false → c'.sp = c.sp) ∧
  (w.c = false → c'.p.c = c.p.c) ∧ (w.z = false → c'.p.z = c.p.z) ∧ (w.i = false → c'.p.i = c.p.i) ∧
  (w.d = false → c'.p.d = c.p.d) ∧ (w.v = false → c'.p.v = c.p.v) ∧ (w.n = false → c'.p.n = c.p.n) ∧
  (w.br = false → c'.p.b = c.p.b ∧ c'.p.r = c.p.r)

/-- The forms that read their operand and store nothing, with what their rules write. -/
def readingForms (b1 b2 : Byte) : List (List (Form Source) × Writes) := [
  (lda b1 b2, { a := true, z := true, n := true }), (ldx b1 b2, { x := true, z := true, n := true }),
  (ldy b1 b2, { y := true, z := true, n := true }), (adc b1 b2, { a := true, c := true, z := true, v := true, n := true }),
  (sbc b1 b2, { a := true, c := true, z := true, v := true, n := true }),
  (sbcEB b1 b2, { a := true, c := true, z := true, v := true, n := true }),
  (and b1 b2, { a := true, z := true, n := true }), (ora b1 b2, { a := true, z := true, n := true }),
  (eor b1 b2, { a := true, z := true, n := true }), (cmp b1 b2, { c := true, z := true, n := true }),
  (cpx b1 b2, { c := true, z := true, n := true }), (cpy b1 b2, { c := true, z := true, n := true }),
  (bit b1 b2, { z := true, v := true, n := true }), (lax b1 b2, { a := true, x := true, z := true, n := true }),
  (nopImm b1 b2, {}), (nopMem b1 b2, {})]

/-- The instructions that make no data access, with what their rules write; the conditional branches and JMP abs among
them. -/
def registerForms (b1 b2 : Byte) : List (Instr × Writes) := [
  (.tax, { x := true, z := true, n := true }), (.tay, { y := true, z := true, n := true }),
  (.txa, { a := true, z := true, n := true }), (.tya, { a := true, z := true, n := true }),
  (.tsx, { x := true, z := true, n := true }), (.txs, { sp := true }), (.inx, { x := true, z := true, n := true }),
  (.iny, { y := true, z := true, n := true }), (.dex, { x := true, z := true, n := true }),
  (.dey, { y := true, z := true, n := true }), (.aslAcc, { a := true, c := true, z := true, n := true }),
  (.lsrAcc, { a := true, c := true, z := true, n := true }), (.rolAcc, { a := true, c := true, z := true, n := true }),
  (.rorAcc, { a := true, c := true, z := true, n := true }), (.clc, { c := true }), (.sec, { c := true }),
  (.cli, { i := true }), (.sei, { i := true }), (.clv, { v := true }), (.cld, { d := true }), (.sed, { d := true }),
  (.nop, {}), (.nop1A, {}), (.nop3A, {}), (.nop5A, {}), (.nop7A, {}), (.nopDA, {}), (.nopFA, {}),
  (.jmpAbs (joinBytes b2 b1), {}), (.bcc b1, {}), (.bcs b1, {}), (.beq b1, {}), (.bne b1, {}), (.bmi b1, {}),
  (.bpl b1, {}), (.bvc b1, {}), (.bvs b1, {})]

/-- The immediate forms of the optional group (R352 to R355), with what their rules write. -/
def optionalForms (b1 : Byte) : List (Instr × Writes) := [
  (.ancImm0B b1, { a := true, c := true, z := true, n := true }),
  (.ancImm2B b1, { a := true, c := true, z := true, n := true }),
  (.alrImm b1, { a := true, c := true, z := true, n := true }),
  (.arrImm b1, { a := true, c := true, z := true, v := true, n := true }),
  (.sbxImm b1, { x := true, c := true, z := true, n := true })]

/-- The forms that store one byte at their effective address, with what their rules write. -/
def storingForms (b1 b2 : Byte) : List (List (Form MemOperand) × Writes) := [
  (sta b1 b2, {}), (stx b1 b2, {}), (sty b1 b2, {}), (sax b1 b2, {}), (inc b1 b2, { z := true, n := true }),
  (dec b1 b2, { z := true, n := true }), (asl b1 b2, { c := true, z := true, n := true }),
  (lsr b1 b2, { c := true, z := true, n := true }), (rol b1 b2, { c := true, z := true, n := true }),
  (ror b1 b2, { c := true, z := true, n := true }), (dcp b1 b2, { c := true, z := true, n := true }),
  (isb b1 b2, { a := true, c := true, z := true, v := true, n := true }),
  (slo b1 b2, { a := true, c := true, z := true, n := true }),
  (rla b1 b2, { a := true, c := true, z := true, n := true }),
  (sre b1 b2, { a := true, c := true, z := true, n := true }),
  (rra b1 b2, { a := true, c := true, z := true, v := true, n := true })]

/-- The instructions that push or pull, and JMP indirect, with how many bytes they push and what their rules write. -/
def stackForms (b1 b2 : Byte) : List (Instr × Nat × Writes) := [
  (.pha, 1, { sp := true }), (.php, 1, { sp := true }), (.jsr (joinBytes b2 b1), 2, { sp := true }),
  (.brk, 3, { sp := true, i := true }), (.pla, 0, { a := true, sp := true, z := true, n := true }),
  (.plp, 0, { sp := true, c := true, z := true, i := true, d := true, v := true, n := true, br := true }),
  (.rts, 0, { sp := true }),
  (.rti, 0, { sp := true, c := true, z := true, i := true, d := true, v := true, n := true, br := true }),
  (.jmpInd (joinBytes b2 b1), 0, {})]

/-- Reading a plain address gives what it gave: the frame on one byte of memory. -/
def readsSame (a : Word) (s t : State) : Prop :=
  (s.readSlot[blockOf a]).isPlain = true → (busRead a t).1 = (busRead a s).1

/-- A write at `w` reaches the mapper: its registers in PRG-ROM, or a device of its own (R641). -/
abbrev reachesMapper (w : Word) (s : State) : Prop :=
  s.writeSlot[blockOf w] = .cartridge ∨ s.writeSlot[blockOf w] = .mapperDevice

/-- A write at `w` leaves the byte behind `a` alone: it is another stored byte, and the write does not reach the mapper, or
reaches a mapper that makes no calls and is no bank switch under `a`. -/
def apart (a w : Word) (s : State) : Prop :=
  (readPlace a s = none ∨ readPlace a s ≠ writePlace w s) ∧
  (¬reachesMapper w s ∨
    (s.mapper.callsBack = false ∧ (s.writeSlot[blockOf w] = .cartridge → s.readSlot[blockOf a] ≠ .cartridge)))

/-- The pointer reads of a mode change nothing: it has none, or page 0 is plain memory. -/
def pointersPlain (m : MemOperand) (s : State) : Prop :=
  match m with
  | .izx _ | .izy _ => (s.readSlot[(0 : Fin 8)]).isPlain = true
  | .zp _ | .zpx _ | .zpy _ | .abs _ | .absx _ | .absy _ => True

/-- Reading an operand changes nothing: it is immediate, or its pointer and its byte are plain memory. -/
def operandPlain (o : Source) (s : State) : Prop :=
  match o with
  | .imm _ => True
  | .mem m => pointersPlain m s ∧ (s.readSlot[blockOf (effectiveAddress m s).addr]).isPlain = true

/-- Everything an instruction of `stackForms` reads is plain memory and everything it pushes goes to memory. -/
def stackPlain (i : Instr) (s : State) : Prop :=
  match i with
  | .jmpInd w => (s.readSlot[blockOf w]).isPlain = true
  | .brk => writePlace 0x0100#16 s ≠ none ∧ (s.readSlot[(7 : Fin 8)]).isPlain = true
  | .pha | .php | .jsr _ => writePlace 0x0100#16 s ≠ none
  | _ => (s.readSlot[(0 : Fin 8)]).isPlain = true

/-- No pause, due interrupt or stall stands before the instruction at PC (R600, R617). -/
def fetches (s : State) : Prop := s.paused = false ∧ nmiDue s = false ∧ irqDue s = false ∧ s.stallCycles = 0

/-- What pauses the CPU at the end of a step that reached `t` (R611): a breakpoint at the new PC, an NMI or IRQ taken with its
flag on, a CPU read or a CPU write of the step at a watched address. -/
def pauses (nmiTaken irqTaken : Bool) (t : State) : Prop :=
  t.cpu.pc ∈ t.debugCfg.breakpoints ∨ (nmiTaken = true ∧ t.debugCfg.breakOnNmi = true) ∨
  (irqTaken = true ∧ t.debugCfg.breakOnIrq = true) ∨
  (∃ a : Word, BusAccess.read a ∈ t.trace ∧ a ∈ t.debugCfg.readWatch) ∨
  (∃ (a : Word) (v : Byte), BusAccess.write a v ∈ t.trace ∧ a ∈ t.debugCfg.writeWatch)

/-- `u` ends a step that serviced an interrupt or executed an instruction and reached `t` (R600, R610, R611): the total counts
the step, a pending NMI that it did not service counts down, `paused` says whether R611 pauses, and nothing else changes. -/
def endsStep (nmiTaken irqTaken : Bool) (t u : State) : Prop :=
  u = { t with
    cycleTotal := t.cycleTotal + t.stepCycles
    nmiDelay := if t.nmiPending = true ∧ nmiTaken = false then t.nmiDelay - t.stepCycles else t.nmiDelay
    paused := u.paused } ∧
  (u.paused = true ↔ pauses nmiTaken irqTaken t)

/-- The bit of a source after a mapper's calls: the last request or withdrawal of that source decides (R641, R643). -/
def irqAfter (source : IrqSource) (calls : List MapperCall) (before : Bool) : Bool :=
  calls.foldl (fun b c =>
    if c = .requestIrq source then true else if c = .clearIrqRequest source then false else b) before

/-- The number of a source, which is its bit in the request mask (R59). -/
def sourceNumber : IrqSource → Nat
  | .apuFrame => 0
  | .external => 1
  | .disk => 2

/-- The handlers a mapper installs by its calls, in order (R641). -/
def installsOf (calls : List MapperCall) : List HandlerInstall :=
  calls.filterMap fun c => match c with
    | .install i => some i
    | .requestIrq _ | .clearIrqRequest _ | .setPrgWindow _ | .setChrBankOffset _ _ | .setMirrorMode _ => none

/-- The windows of PRG-ROM a mapper chooses by its calls, in order (R641). -/
def windowsOf (calls : List MapperCall) : List PrgWindow :=
  calls.filterMap fun c => match c with
    | .setPrgWindow w => some w
    | .install _ | .requestIrq _ | .clearIrqRequest _ | .setChrBankOffset _ _ | .setMirrorMode _ => none

/-- The PRG-ROM offset a mapper reads an address at: the last window over the address decides (R641); over none, the offset of
NROM, which is the model's choice (notes/assumptions/29). -/
def windowOffset (windows : List PrgWindow) (a : Word) : Nat :=
  match windows.reverse.find? fun w => decide (w.first.toNat ≤ a.toNat ∧ a.toNat ≤ w.last.toNat) with
  | some w => w.offset + (a.toNat - w.first.toNat)
  | none => (a.toNat + 32768) % 65536

/-- The read handler of a block after some installations: the last one over it decides (R104). -/
def readerAfter (block : Fin 8) (installs : List HandlerInstall) (before : Handler) : Handler :=
  installs.foldl (fun h i => match i with
    | .read first last g => if first.toNat / 8192 ≤ block.val ∧ block.val ≤ last.toNat / 8192 then g else h
    | .write _ _ _ => h) before

/-- The write handler of a block after some installations. -/
def writerAfter (block : Fin 8) (installs : List HandlerInstall) (before : Handler) : Handler :=
  installs.foldl (fun h i => match i with
    | .write first last g => if first.toNat / 8192 ≤ block.val ∧ block.val ≤ last.toNat / 8192 then g else h
    | .read _ _ _ => h) before

/-- What a step or the scanline hook can do to the handlers: nothing, unless the mapper can call back; and a table that is what
an installation at the session start gives stays so, which is what lets load rebuild it (R641, R647). -/
def slotsKept (s t : State) : Prop :=
  (s.mapper.callsBack = false → t.readSlot = s.readSlot ∧ t.writeSlot = s.writeSlot) ∧
  (installDevices s = s → installDevices t = t)

/-- Equal but for the fault records and for the last step's count and accesses, which the next step replaces. -/
def sameButRecords (u v : State) : Prop :=
  { u with faults := v.faults, stepCycles := v.stepCycles, trace := v.trace } = v

end Sys2Proof.Rules

open Sys2Proof.Rules

/-! ## Encoding -/

/-- R151, R152, R167: words written out from the spec's encoding lines decode to the instructions they stand for. -/
def Obligations.WordsOfTheSpecDecode : Prop :=
  decode [0xA9#8, 0x80#8] = .ok (.ldaImm 0x80#8) [] ∧
  decode [0x8C#8, 0x00#8, 0x03#8] = .ok (.styAbs 0x0300#16) [] ∧
  decode [0xAA#8] = .ok .tax [] ∧
  decode [0x69#8, 0x50#8] = .ok (.adcImm 0x50#8) [] ∧
  decode [0x6E#8, 0x00#8, 0x03#8] = .ok (.rorAbs 0x0300#16) [] ∧
  decode [0x20#8, 0x00#8, 0x90#8] = .ok (.jsr 0x9000#16) [] ∧
  decode [0x6C#8, 0xFF#8, 0x02#8] = .ok (.jmpInd 0x02FF#16) [] ∧
  decode [0xD0#8, 0xFA#8] = .ok (.bne 0xFA#8) [] ∧
  decode [0xF8#8] = .ok .sed [] ∧
  decode [0xE7#8, 0x10#8] = .ok (.isbZp 0x10#8) [] ∧
  decode [0x02#8] = .ok .jam02 []

/-- R150, R151, R172: encoding an instruction and decoding the bytes gives it back with every operand, whatever bytes follow.
The unknown markers are among the instructions, so every well-formed one is. -/
def Obligations.DecodeOfEncode : Prop :=
  ∀ (i : Instr) (rest : List Byte), decode (encode i ++ rest) = .ok i rest

/-- R150, R172: the other direction. The bytes the decoder uses are the encoding of its answer; only BRK's padding byte may
be any byte, or missing at the end of the list. It rejects only for missing bytes: with two bytes after the opcode it
answers an instruction with that opcode. -/
def Obligations.EncodeOfDecode : Prop :=
  (∀ (bytes : List Byte) (i : Instr) (rest : List Byte), decode bytes = .ok i rest →
    bytes = encode i ++ rest ∨ (i = .brk ∧ ∃ pad : List Byte, pad.length ≤ 1 ∧ bytes = 0x00#8 :: (pad ++ rest))) ∧
  (∀ (op b1 b2 : Byte) (rest : List Byte), ∃ (i : Instr) (rest' : List Byte),
    decode (op :: b1 :: b2 :: rest) = .ok i rest' ∧ i.opcode = op ∧ decodeOpcode op b1 b2 = i)

/-- R168, R169, R170: an opcode is the unknown marker exactly when its instruction is not well-formed; with EXTRA_UNOFFICIAL
false there are 25 markers among the 256 opcodes, with it true there are 19. -/
def Obligations.UnknownMarkers : Prop :=
  (∀ (op b1 b2 : Byte) (extra : Bool),
    (entryOf op).isMarker extra = !((decodeOpcode op b1 b2).wellFormed extra)) ∧
  ((List.range 256).filter fun n => (entryOf (BitVec.ofNat 8 n)).isMarker false).length = 25 ∧
  ((List.range 256).filter fun n => (entryOf (BitVec.ofNat 8 n)).isMarker true).length = 19

/-- R150, R151: the byte length of every table entry that is no unknown marker is its mode's, but for BRK's 2; and R171, R711:
the base cycles of the classes read, write and read-modify-write by mode. -/
def Obligations.LengthsAndBaseCycles : Prop :=
  ∀ op : Byte, (entryOf op).isMarker true = false →
    (entryOf op).length = (if op = 0x00#8 then 2 else modeLength (entryOf op).mode) ∧
    (cycleRange (entryOf op).cls (entryOf op).mode).1 ≤ (entryOf op).cycles ∧
    (entryOf op).cycles ≤ (cycleRange (entryOf op).cls (entryOf op).mode).2

/-! ## Operands and accesses -/

/-- R156, R157, R158, R162, R163, R164, R166: the effective address of every mode without a pointer, in integers, with its page
crossing; computing it reads nothing. The spec marks zp (R156) as general knowledge and the wraps of R163 and R164 as derived. -/
def Obligations.DirectAddresses : Prop :=
  ∀ (z : Byte) (w : Word) (s : State),
    effectiveAddress (.zp z) s = ⟨BitVec.ofNat 16 z.toNat, false, s⟩ ∧
    effectiveAddress (.zpx z) s = ⟨BitVec.ofNat 16 ((z.toNat + s.cpu.x.toNat) % 256), false, s⟩ ∧
    effectiveAddress (.zpy z) s = ⟨BitVec.ofNat 16 ((z.toNat + s.cpu.y.toNat) % 256), false, s⟩ ∧
    effectiveAddress (.abs w) s = ⟨w, false, s⟩ ∧
    effectiveAddress (.absx w) s =
      ⟨BitVec.ofNat 16 (w.toNat + s.cpu.x.toNat), decide (256 ≤ w.toNat % 256 + s.cpu.x.toNat), s⟩ ∧
    effectiveAddress (.absy w) s =
      ⟨BitVec.ofNat 16 (w.toNat + s.cpu.y.toNat), decide (256 ≤ w.toNat % 256 + s.cpu.y.toNat), s⟩

/-- R160, R161, R159: the pointer forms. Two reads, low byte first, the second inside page 0 (or, for JMP indirect, inside the
pointer's page); (zp),Y adds Y to the pointer and carries into the high byte. These wraps are the spec's own readings: it marks
that of R159 as decision D16 and those of R160 and R161 as decision D34. -/
def Obligations.PointerAddresses : Prop :=
  ∀ (z : Byte) (w : Word) (s : State),
    (let p := (z.toNat + s.cpu.x.toNat) % 256
     let lo := fetched (BitVec.ofNat 16 p) s
     let hi := fetched (BitVec.ofNat 16 ((p + 1) % 256)) lo.2
     effectiveAddress (.izx z) s = ⟨BitVec.ofNat 16 (256 * hi.1.toNat + lo.1.toNat), false, hi.2⟩) ∧
    (let lo := fetched (BitVec.ofNat 16 z.toNat) s
     let hi := fetched (BitVec.ofNat 16 ((z.toNat + 1) % 256)) lo.2
     effectiveAddress (.izy z) s =
      ⟨BitVec.ofNat 16 (256 * hi.1.toNat + lo.1.toNat + s.cpu.y.toNat), decide (256 ≤ lo.1.toNat + s.cpu.y.toNat), hi.2⟩) ∧
    (let lo := fetched w s
     let hi := fetched (BitVec.ofNat 16 (w.toNat / 256 * 256 + (w.toNat + 1) % 256)) lo.2
     exec (.jmpInd w) s =
      .next { hi.2 with cpu := { s.cpu with pc := BitVec.ofNat 16 (256 * hi.1.toNat + lo.1.toNat) }, stepCycles := 5 })

/-- R110 items 1 and 2, R152, R607, R608: what the fetch reads. The opcode at PC, then as many bytes at PC+1 and PC+2 as the
mode has operand bytes, none for an unknown marker; the instruction is the one those bytes make. -/
def Obligations.FetchReadsExactly : Prop :=
  ∀ s : State,
    let op := fetched s.cpu.pc s
    let b1 := fetched (s.cpu.pc + 1#16) op.2
    let b2 := fetched (s.cpu.pc + 2#16) b1.2
    let n := if (entryOf op.1).isMarker s.params.extraUnofficial then 0 else (entryOf op.1).operandBytes
    (n = 0 → (fetchInstr s).2 = op.2 ∧ (fetchInstr s).1.opcode = op.1) ∧
    (n = 1 → (fetchInstr s).2 = b1.2 ∧ ∀ x : Byte, (fetchInstr s).1 = decodeOpcode op.1 b1.1 x) ∧
    (n = 2 → (fetchInstr s).2 = b2.2 ∧ (fetchInstr s).1 = decodeOpcode op.1 b1.1 b2.1) ∧ n ≤ 2

/-- R110 item 4, R171: the data accesses of an executed instruction by its class. One read at the effective address; one write
and no read; one read and then one write at the same address; none for an implied, accumulator, immediate, relative or
JMP abs instruction. The pointer reads of (zp,X) and (zp),Y come before, in the state the address was computed in. -/
def Obligations.DataAccessesByClass : Prop :=
  ∀ (i : Instr) (s t : State), exec i s = .next t → (entryOf i.opcode).isMarker s.params.extraUnofficial = false →
    (∀ m : MemOperand, i.operand = .mem m →
      ((entryOf i.opcode).cls = .read →
        t.trace = (effectiveAddress m s).st.trace ++ [.read (effectiveAddress m s).addr]) ∧
      ((entryOf i.opcode).cls = .write →
        ∃ v, t.trace = (effectiveAddress m s).st.trace ++ [.write (effectiveAddress m s).addr v]) ∧
      ((entryOf i.opcode).cls = .rmw →
        ∃ v, t.trace = (effectiveAddress m s).st.trace ++
          [.read (effectiveAddress m s).addr, .write (effectiveAddress m s).addr v])) ∧
    ((∃ (b1 b2 : Byte) (w : Writes), (i, w) ∈ registerForms b1 b2) → t.trace = s.trace) ∧
    ((entryOf i.opcode).mode = .imm ∨ (entryOf i.opcode).mode = .acc ∨ (entryOf i.opcode).mode = .rel → t.trace = s.trace)

/-! ## Instructions: results, cycles, completion -/

/-- R200, R201, R202, R340: LDA, LDX, LDY and LAX in every form load the operand, set N and Z from it, go to the next
instruction and count their cycles. -/
def Obligations.LoadInstructions : Prop :=
  ∀ (b1 b2 : Byte) (s : State),
    (∀ f ∈ lda b1 b2, f.decodes b1 b2 ∧
      exec f.instr s = .next (f.reading s fun m c => { c with a := m, p := nz m c.p })) ∧
    (∀ f ∈ ldx b1 b2, f.decodes b1 b2 ∧
      exec f.instr s = .next (f.reading s fun m c => { c with x := m, p := nz m c.p })) ∧
    (∀ f ∈ ldy b1 b2, f.decodes b1 b2 ∧
      exec f.instr s = .next (f.reading s fun m c => { c with y := m, p := nz m c.p })) ∧
    (∀ f ∈ lax b1 b2, f.decodes b1 b2 ∧
      exec f.instr s = .next (f.reading s fun m c => { c with a := m, x := m, p := nz m c.p }))

/-- R203, R204, R205, R341: STA, STX, STY and SAX in every form write A, X, Y or A & X at the effective address without reading
it, change no register and no flag, and pay nothing for a page crossing. -/
def Obligations.StoreInstructions : Prop :=
  ∀ (b1 b2 : Byte) (s : State),
    (∀ f ∈ sta b1 b2, f.decodes b1 b2 ∧ exec f.instr s = .next (f.storing s s.cpu.a)) ∧
    (∀ f ∈ stx b1 b2, f.decodes b1 b2 ∧ exec f.instr s = .next (f.storing s s.cpu.x)) ∧
    (∀ f ∈ sty b1 b2, f.decodes b1 b2 ∧ exec f.instr s = .next (f.storing s s.cpu.y)) ∧
    (∀ f ∈ sax b1 b2, f.decodes b1 b2 ∧ exec f.instr s = .next (f.storing s (s.cpu.a &&& s.cpu.x)))

/-- R220 to R225: the register transfers; TXS writes no flag. -/
def Obligations.TransferInstructions : Prop :=
  ∀ (b1 b2 : Byte) (s : State),
    let c := s.cpu
    decodeOpcode 0xAA#8 b1 b2 = .tax ∧ exec .tax s = .next (ends s 1 2 { c with x := c.a, p := nz c.a c.p } s) ∧
    decodeOpcode 0xA8#8 b1 b2 = .tay ∧ exec .tay s = .next (ends s 1 2 { c with y := c.a, p := nz c.a c.p } s) ∧
    decodeOpcode 0x8A#8 b1 b2 = .txa ∧ exec .txa s = .next (ends s 1 2 { c with a := c.x, p := nz c.x c.p } s) ∧
    decodeOpcode 0x98#8 b1 b2 = .tya ∧ exec .tya s = .next (ends s 1 2 { c with a := c.y, p := nz c.y c.p } s) ∧
    decodeOpcode 0xBA#8 b1 b2 = .tsx ∧ exec .tsx s = .next (ends s 1 2 { c with x := c.sp, p := nz c.sp c.p } s) ∧
    decodeOpcode 0x9A#8 b1 b2 = .txs ∧ exec .txs s = .next (ends s 1 2 { c with sp := c.x } s)

/-- R226 to R229, R17: PHA and PHP push A and the status with B = 1 and bit 5 = 1; PLA pulls A with N and Z, PLP pulls all
eight flag cells. S moves modulo 256 inside page 1. The spec marks the pushed status byte (R48) and PLP's eight cells (R229) as
decision D11. -/
def Obligations.StackInstructions : Prop :=
  ∀ (b1 b2 : Byte) (s : State),
    decodeOpcode 0x48#8 b1 b2 = .pha ∧
    exec .pha s = .next (ends s 1 3 { s.cpu with sp := s.cpu.sp - 1#8 } (pushed s.cpu.a s)) ∧
    decodeOpcode 0x08#8 b1 b2 = .php ∧
    exec .php s = .next (ends s 1 3 { s.cpu with sp := s.cpu.sp - 1#8 } (pushed (statusByte true s.cpu.p) s)) ∧
    decodeOpcode 0x68#8 b1 b2 = .pla ∧
    exec .pla s = .next (ends s 1 4 { s.cpu with sp := s.cpu.sp + 1#8, a := (pulled s).1, p := nz (pulled s).1 s.cpu.p }
      (pulled s).2) ∧
    decodeOpcode 0x28#8 b1 b2 = .plp ∧
    exec .plp s = .next (ends s 1 4 { s.cpu with sp := s.cpu.sp + 1#8, p := statusFlags (pulled s).1 } (pulled s).2)

/-- R230, R240: ADC in every form; the binary sum whatever D holds. -/
def Obligations.AddWithCarry : Prop :=
  ∀ (b1 b2 : Byte) (s : State), ∀ f ∈ adc b1 b2, f.decodes b1 b2 ∧ exec f.instr s = .next (f.reading s Rules.addCore)

/-- R241, R348: SBC in every form and its unofficial duplicate 0xEB; the binary difference whatever D holds. -/
def Obligations.SubtractWithBorrow : Prop :=
  ∀ (b1 b2 : Byte) (s : State), ∀ f ∈ sbc b1 b2 ++ sbcEB b1 b2, f.decodes b1 b2 ∧
    exec f.instr s = .next (f.reading s subtract)

/-- R242, R243, R244: AND, ORA and EOR in every form. -/
def Obligations.LogicInstructions : Prop :=
  ∀ (b1 b2 : Byte) (s : State),
    (∀ f ∈ Rules.and b1 b2, f.decodes b1 b2 ∧
      exec f.instr s = .next (f.reading s fun m c => { c with a := c.a &&& m, p := nz (c.a &&& m) c.p })) ∧
    (∀ f ∈ ora b1 b2, f.decodes b1 b2 ∧
      exec f.instr s = .next (f.reading s fun m c => { c with a := c.a ||| m, p := nz (c.a ||| m) c.p })) ∧
    (∀ f ∈ eor b1 b2, f.decodes b1 b2 ∧
      exec f.instr s = .next (f.reading s fun m c => { c with a := c.a ^^^ m, p := nz (c.a ^^^ m) c.p }))

/-- R231, R245, R246, R247: CMP, CPX and CPY in every form; no register and no V is written. -/
def Obligations.CompareInstructions : Prop :=
  ∀ (b1 b2 : Byte) (s : State),
    (∀ f ∈ Rules.cmp b1 b2, f.decodes b1 b2 ∧
      exec f.instr s = .next (f.reading s fun m c => { c with p := Rules.compare c.a m c.p })) ∧
    (∀ f ∈ cpx b1 b2, f.decodes b1 b2 ∧
      exec f.instr s = .next (f.reading s fun m c => { c with p := Rules.compare c.x m c.p })) ∧
    (∀ f ∈ cpy b1 b2, f.decodes b1 b2 ∧
      exec f.instr s = .next (f.reading s fun m c => { c with p := Rules.compare c.y m c.p }))

/-- R248: BIT in every form. Z from A & M, N from bit 7 and V from bit 6 of M; A is not written. -/
def Obligations.BitTest : Prop :=
  ∀ (b1 b2 : Byte) (s : State), ∀ f ∈ bit b1 b2, f.decodes b1 b2 ∧
    exec f.instr s = .next (f.reading s fun m c =>
      { c with p := { c.p with z := decide (c.a &&& m = 0#8), n := decide (128 ≤ m.toNat),
                               v := decide (m.toNat / 64 % 2 = 1) } })

/-- R249 to R254: INC and DEC in memory, INX, INY, DEX and DEY, modulo 256, with N and Z and no other flag. -/
def Obligations.IncrementDecrement : Prop :=
  ∀ (b1 b2 : Byte) (s : State),
    let c := s.cpu
    (∀ f ∈ inc b1 b2, f.decodes b1 b2 ∧
      exec f.instr s = .next (f.modifying s (fun m => m + 1#8) fun m c => { c with p := nz (m + 1#8) c.p })) ∧
    (∀ f ∈ dec b1 b2, f.decodes b1 b2 ∧
      exec f.instr s = .next (f.modifying s (fun m => m - 1#8) fun m c => { c with p := nz (m - 1#8) c.p })) ∧
    decodeOpcode 0xE8#8 b1 b2 = .inx ∧
    exec .inx s = .next (ends s 1 2 { c with x := c.x + 1#8, p := nz (c.x + 1#8) c.p } s) ∧
    decodeOpcode 0xC8#8 b1 b2 = .iny ∧
    exec .iny s = .next (ends s 1 2 { c with y := c.y + 1#8, p := nz (c.y + 1#8) c.p } s) ∧
    decodeOpcode 0xCA#8 b1 b2 = .dex ∧
    exec .dex s = .next (ends s 1 2 { c with x := c.x - 1#8, p := nz (c.x - 1#8) c.p } s) ∧
    decodeOpcode 0x88#8 b1 b2 = .dey ∧
    exec .dey s = .next (ends s 1 2 { c with y := c.y - 1#8, p := nz (c.y - 1#8) c.p } s)

/-- R280 to R283: ASL, LSR, ROL and ROR, on A and in every memory form. The rotates take the old C in. -/
def Obligations.ShiftsAndRotates : Prop :=
  ∀ (b1 b2 : Byte) (s : State),
    let c := s.cpu
    let k := s.cpu.p.c
    decodeOpcode 0x0A#8 b1 b2 = .aslAcc ∧
    exec .aslAcc s = .next (ends s 1 2
      { c with a := leftByte c.a false, p := leftFlags c.a (leftByte c.a false) c.p } s) ∧
    decodeOpcode 0x4A#8 b1 b2 = .lsrAcc ∧
    exec .lsrAcc s = .next (ends s 1 2
      { c with a := rightByte c.a false, p := rightFlags c.a (rightByte c.a false) c.p } s) ∧
    decodeOpcode 0x2A#8 b1 b2 = .rolAcc ∧
    exec .rolAcc s = .next (ends s 1 2 { c with a := leftByte c.a k, p := leftFlags c.a (leftByte c.a k) c.p } s) ∧
    decodeOpcode 0x6A#8 b1 b2 = .rorAcc ∧
    exec .rorAcc s = .next (ends s 1 2 { c with a := rightByte c.a k, p := rightFlags c.a (rightByte c.a k) c.p } s) ∧
    (∀ f ∈ asl b1 b2, f.decodes b1 b2 ∧ exec f.instr s = .next (f.modifying s (fun m => leftByte m false) fun m c =>
      { c with p := leftFlags m (leftByte m false) c.p })) ∧
    (∀ f ∈ lsr b1 b2, f.decodes b1 b2 ∧ exec f.instr s = .next (f.modifying s (fun m => rightByte m false) fun m c =>
      { c with p := rightFlags m (rightByte m false) c.p })) ∧
    (∀ f ∈ rol b1 b2, f.decodes b1 b2 ∧ exec f.instr s = .next (f.modifying s (fun m => leftByte m k) fun m c =>
      { c with p := leftFlags m (leftByte m k) c.p })) ∧
    (∀ f ∈ ror b1 b2, f.decodes b1 b2 ∧ exec f.instr s = .next (f.modifying s (fun m => rightByte m k) fun m c =>
      { c with p := rightFlags m (rightByte m k) c.p }))

/-- R290 (absolute), R291, R292, R293: JMP abs, JSR, RTS and RTI. JSR pushes the address of its last byte, high byte first; RTS
adds 1 to what it pulls; RTI pulls the status and then PC and adds nothing. The spec marks RTI's eight cells (R293) as decision D11. -/
def Obligations.JumpsAndReturns : Prop :=
  ∀ (b1 b2 : Byte) (s : State),
    let w := joinBytes b2 b1
    let ret := s.cpu.pc + 2#16
    decodeOpcode 0x4C#8 b1 b2 = .jmpAbs w ∧
    exec (.jmpAbs w) s = .next { s with cpu := { s.cpu with pc := w }, stepCycles := 3 } ∧
    decodeOpcode 0x20#8 b1 b2 = .jsr w ∧
    (let t := pushed (BitVec.ofNat 8 ret.toNat) (pushed (BitVec.ofNat 8 (ret.toNat / 256)) s)
     exec (.jsr w) s = .next { t with cpu := { s.cpu with sp := s.cpu.sp - 2#8, pc := w }, stepCycles := 6 }) ∧
    decodeOpcode 0x60#8 b1 b2 = .rts ∧
    (let lo := pulled s
     let hi := pulled lo.2
     exec .rts s = .next { hi.2 with
       cpu := { s.cpu with sp := s.cpu.sp + 2#8, pc := BitVec.ofNat 16 (256 * hi.1.toNat + lo.1.toNat + 1) },
       stepCycles := 6 }) ∧
    decodeOpcode 0x40#8 b1 b2 = .rti ∧
    (let p := pulled s
     let lo := pulled p.2
     let hi := pulled lo.2
     exec .rti s = .next { hi.2 with
       cpu := { s.cpu with sp := s.cpu.sp + 3#8, p := statusFlags p.1,
                           pc := BitVec.ofNat 16 (256 * hi.1.toNat + lo.1.toNat) },
       stepCycles := 6 })

/-- R165, R294 to R302, R710: the eight conditional branches. The target is next plus the signed offset; 2 cycles, 3 when taken,
4 when taken into another page than next. -/
def Obligations.BranchInstructions : Prop :=
  ∀ (b1 b2 : Byte) (s : State),
    let next : Word := BitVec.ofNat 16 (s.cpu.pc.toNat + 2)
    let target : Word := BitVec.ofInt 16 (s.cpu.pc.toNat + 2 + b1.toInt)
    ∀ f ∈ [((0x90#8 : Byte), Instr.bcc b1, !s.cpu.p.c), (0xB0#8, .bcs b1, s.cpu.p.c), (0xF0#8, .beq b1, s.cpu.p.z),
           (0xD0#8, .bne b1, !s.cpu.p.z), (0x30#8, .bmi b1, s.cpu.p.n), (0x10#8, .bpl b1, !s.cpu.p.n),
           (0x50#8, .bvc b1, !s.cpu.p.v), (0x70#8, .bvs b1, s.cpu.p.v)],
      decodeOpcode f.1 b1 b2 = f.2.1 ∧
      exec f.2.1 s = .next { s with
        cpu := { s.cpu with pc := if f.2.2 then target else next },
        stepCycles := if f.2.2 then (if next.toNat / 256 = target.toNat / 256 then 3 else 4) else 2 }

/-- R303: BRK pushes PC + 2, high byte first, and the status with B = 1, sets I and goes through the vector at 0xFFFE,
whatever I holds; D, the other flags and the stored B cell do not change, nor do the IRQ requests where page 1 is not the
mapper's. That neither a push to an undefined device nor the vector read makes a request is the model's choice
(notes/assumptions/7 and 29). -/
def Obligations.SoftwareInterrupt : Prop :=
  ∀ (b1 b2 : Byte) (s : State),
    let ret := s.cpu.pc + 2#16
    let t := pushed (statusByte true s.cpu.p)
      (pushed (BitVec.ofNat 8 ret.toNat) (pushed (BitVec.ofNat 8 (ret.toNat / 256)) s))
    let lo := fetched 0xFFFE#16 { t with cpu := { t.cpu with p := { s.cpu.p with i := true } } }
    let hi := fetched 0xFFFF#16 lo.2
    decodeOpcode 0x00#8 b1 b2 = .brk ∧
    exec .brk s = .next { hi.2 with
      cpu := { s.cpu with sp := s.cpu.sp - 3#8, p := { s.cpu.p with i := true },
                          pc := BitVec.ofNat 16 (256 * hi.1.toNat + lo.1.toNat) },
      stepCycles := 7 } ∧
    (¬reachesMapper 0x0100#16 s → hi.2.irqRequest = s.irqRequest)

/-- R320 to R326: the flag instructions write their one flag. -/
def Obligations.FlagInstructions : Prop :=
  ∀ (b1 b2 : Byte) (s : State),
    let c := s.cpu
    decodeOpcode 0x18#8 b1 b2 = .clc ∧ exec .clc s = .next (ends s 1 2 { c with p := { c.p with c := false } } s) ∧
    decodeOpcode 0x38#8 b1 b2 = .sec ∧ exec .sec s = .next (ends s 1 2 { c with p := { c.p with c := true } } s) ∧
    decodeOpcode 0x58#8 b1 b2 = .cli ∧ exec .cli s = .next (ends s 1 2 { c with p := { c.p with i := false } } s) ∧
    decodeOpcode 0x78#8 b1 b2 = .sei ∧ exec .sei s = .next (ends s 1 2 { c with p := { c.p with i := true } } s) ∧
    decodeOpcode 0xB8#8 b1 b2 = .clv ∧ exec .clv s = .next (ends s 1 2 { c with p := { c.p with v := false } } s) ∧
    decodeOpcode 0xD8#8 b1 b2 = .cld ∧ exec .cld s = .next (ends s 1 2 { c with p := { c.p with d := false } } s) ∧
    decodeOpcode 0xF8#8 b1 b2 = .sed ∧ exec .sed s = .next (ends s 1 2 { c with p := { c.p with d := true } } s)

/-- R327, R349, R350, R351: every NOP goes to the next instruction; the forms with a memory operand read it, and the abs,X forms
pay for a page crossing. The spec marks the read of the memory forms (R351) as decision D27. -/
def Obligations.NoOperations : Prop :=
  ∀ (b1 b2 : Byte) (s : State),
    (∀ f ∈ (0xEA#8, Instr.nop) :: nopImp, decodeOpcode f.1 b1 b2 = f.2 ∧ exec f.2 s = .next (ends s 1 2 s.cpu s)) ∧
    (∀ f ∈ nopImm b1 b2 ++ nopMem b1 b2, f.decodes b1 b2 ∧ exec f.instr s = .next (f.reading s fun _ c => c))

/-- R342, R343: DCP decrements memory and compares A with the new byte; ISB increments memory and subtracts the new byte. -/
def Obligations.DecrementCompareIncrementSubtract : Prop :=
  ∀ (b1 b2 : Byte) (s : State),
    (∀ f ∈ dcp b1 b2, f.decodes b1 b2 ∧ exec f.instr s = .next (f.modifying s (fun m => m - 1#8) fun m c =>
      { c with p := Rules.compare c.a (m - 1#8) c.p })) ∧
    (∀ f ∈ isb b1 b2, f.decodes b1 b2 ∧ exec f.instr s = .next (f.modifying s (fun m => m + 1#8) fun m c =>
      subtract (m + 1#8) c))

/-- R344 to R347: SLO, RLA, SRE and RRA: the shift or rotate in memory, then the operation on A with the new byte. RRA's add
takes in the rotate's carry out. -/
def Obligations.ShiftAndCombine : Prop :=
  ∀ (b1 b2 : Byte) (s : State),
    let k := s.cpu.p.c
    (∀ f ∈ slo b1 b2, f.decodes b1 b2 ∧ exec f.instr s = .next (f.modifying s (fun m => leftByte m false) fun m c =>
      { c with a := c.a ||| leftByte m false, p := leftFlags m (c.a ||| leftByte m false) c.p })) ∧
    (∀ f ∈ rla b1 b2, f.decodes b1 b2 ∧ exec f.instr s = .next (f.modifying s (fun m => leftByte m k) fun m c =>
      { c with a := c.a &&& leftByte m k, p := leftFlags m (c.a &&& leftByte m k) c.p })) ∧
    (∀ f ∈ sre b1 b2, f.decodes b1 b2 ∧ exec f.instr s = .next (f.modifying s (fun m => rightByte m false) fun m c =>
      { c with a := c.a ^^^ rightByte m false, p := rightFlags m (c.a ^^^ rightByte m false) c.p })) ∧
    (∀ f ∈ rra b1 b2, f.decodes b1 b2 ∧ exec f.instr s = .next (f.modifying s (fun m => rightByte m k) fun m c =>
      Rules.addCore (rightByte m k) { c with p := { c.p with c := decide (m.toNat % 2 = 1) } }))

/-- R352 to R356: the optional group when EXTRA_UNOFFICIAL is true. -/
def Obligations.OptionalGroupEnabled : Prop :=
  ∀ (b1 b2 : Byte) (s : State), s.params.extraUnofficial = true →
    let c := s.cpu
    let t := c.a &&& b1
    (∀ f ∈ [((0x0B#8 : Byte), Instr.ancImm0B b1), (0x2B#8, .ancImm2B b1)], decodeOpcode f.1 b1 b2 = f.2 ∧
      exec f.2 s = .next (ends s 2 2 { c with a := t, p := { nz t c.p with c := decide (128 ≤ t.toNat) } } s)) ∧
    decodeOpcode 0x4B#8 b1 b2 = .alrImm b1 ∧
    exec (.alrImm b1) s = .next (ends s 2 2
      { c with a := rightByte t false, p := rightFlags t (rightByte t false) c.p } s) ∧
    decodeOpcode 0x6B#8 b1 b2 = .arrImm b1 ∧
    (let r := rightByte t c.p.c
     exec (.arrImm b1) s = .next (ends s 2 2
      { c with a := r, p := { nz r c.p with c := decide (r.toNat / 64 % 2 = 1),
                                            v := decide (r.toNat / 64 % 2 ≠ r.toNat / 32 % 2) } } s)) ∧
    decodeOpcode 0xCB#8 b1 b2 = .sbxImm b1 ∧
    (let u := c.a &&& c.x
     exec (.sbxImm b1) s = .next (ends s 2 2
      { c with x := u - b1, p := { nz (u - b1) c.p with c := decide (b1.toNat ≤ u.toNat) } } s)) ∧
    (∀ f ∈ las b1 b2, f.decodes b1 b2 ∧ exec f.instr s = .next (f.reading s fun m c =>
      { c with a := m &&& c.sp, x := m &&& c.sp, sp := m &&& c.sp, p := nz (m &&& c.sp) c.p }))

/-- R357, R608: executing an unknown-marker opcode, the optional group's with EXTRA_UNOFFICIAL false among them, is the halt:
`paused` set, the record appended, nothing else changed, 0 cycles. -/
def Obligations.UnknownMarkersHalt : Prop :=
  ∀ (b1 b2 : Byte) (s : State),
    let halt (op : Byte) : State :=
      { s with paused := true, faults := s.faults ++ [.illegalOpcode op s.cpu.pc], stepCycles := 0 }
    (∀ f ∈ halting, decodeOpcode f.1 b1 b2 = f.2 ∧ exec f.2 s = .next (halt f.1)) ∧
    (s.params.extraUnofficial = false →
      ∀ f ∈ [((0x0B#8 : Byte), Instr.ancImm0B b1), (0x2B#8, .ancImm2B b1), (0x4B#8, .alrImm b1), (0x6B#8, .arrImm b1),
             (0xCB#8, .sbxImm b1), (0xBB#8, .lasAbsy (joinBytes b2 b1))],
        decodeOpcode f.1 b1 b2 = f.2 ∧ exec f.2 s = .next (halt f.1))

/-! ## Frames -/

/-- The frame of every instruction that stores nothing. Those that read an operand change, beside what their rule names, only
what a device's answer to the reads changes, and nothing where the reads are of plain memory; the register instructions, the
branches, JMP abs and (enabled) the optional immediates change the CPU alone, and (enabled) LAS what a read does. Every plain
byte of memory reads as before. That a read makes no call, so that requests, handlers, stall and mapper stay, is the model's
choice, for an undefined device in notes/assumptions/7 and for a mapper in notes/assumptions/29. -/
def Obligations.NonStoringFrame : Prop :=
  ∀ (b1 b2 : Byte) (s t : State),
    (∀ g ∈ readingForms b1 b2, ∀ f ∈ g.1, exec f.instr s = .next t →
      g.2.Frame s.cpu t.cpu ∧
      t = { s with cpu := t.cpu, stepCycles := t.stepCycles, trace := t.trace, ppu := t.ppu, deviceLog := t.deviceLog } ∧
      (operandPlain f.operand s → t.ppu = s.ppu ∧ t.deviceLog = s.deviceLog) ∧
      ∀ a : Word, readsSame a s t) ∧
    (∀ g ∈ registerForms b1 b2, exec g.1 s = .next t →
      g.2.Frame s.cpu t.cpu ∧ t = { s with cpu := t.cpu, stepCycles := t.stepCycles } ∧ ∀ a : Word, readsSame a s t) ∧
    (s.params.extraUnofficial = true → ∀ g ∈ optionalForms b1, exec g.1 s = .next t →
      g.2.Frame s.cpu t.cpu ∧ t = { s with cpu := t.cpu, stepCycles := t.stepCycles } ∧ ∀ a : Word, readsSame a s t) ∧
    (s.params.extraUnofficial = true → ∀ f ∈ las b1 b2, exec f.instr s = .next t →
      Writes.Frame { a := true, x := true, sp := true, z := true, n := true } s.cpu t.cpu ∧
      t = { s with cpu := t.cpu, stepCycles := t.stepCycles, trace := t.trace, ppu := t.ppu, deviceLog := t.deviceLog } ∧
      (operandPlain f.operand s → t.ppu = s.ppu ∧ t.deviceLog = s.deviceLog) ∧
      ∀ a : Word, readsSame a s t)

/-- The frame of every instruction that stores a byte at its effective address: registers and flags its rule does not name, the
pause and debug state, the bookkeeping, the cartridge and the parameters are unchanged, and every plain byte of memory apart
from the stored one reads as before. The IRQ requests and the handlers change only by a mapper that can call back (R641,
R643). Where the store goes to memory, the NMI latch, the requests, the handlers, the stall and the mapper are unchanged, and
where the pointer and (read-modify-write) the operand are plain memory too, so are the PPU and the device log. That the reads,
and a store to an undefined device, make no call is the model's choice (notes/assumptions/7 and 29). -/
def Obligations.StoringFrame : Prop :=
  ∀ (b1 b2 : Byte) (s t : State), ∀ g ∈ storingForms b1 b2, ∀ f ∈ g.1, exec f.instr s = .next t →
    let e := effectiveAddress f.operand s
    g.2.Frame s.cpu t.cpu ∧
    t = { s with cpu := t.cpu, stepCycles := t.stepCycles, trace := t.trace, ppu := t.ppu, deviceLog := t.deviceLog,
                 nmiPending := t.nmiPending, nmiDelay := t.nmiDelay, irqRequest := t.irqRequest,
                 stallCycles := t.stallCycles, ram := t.ram, prgRam := t.prgRam, flat := t.flat, mapper := t.mapper,
                 readSlot := t.readSlot, writeSlot := t.writeSlot } ∧
    (∀ a : Word, apart a e.addr s → readsSame a s t) ∧
    (s.mapper.callsBack = false →
      t.irqRequest = s.irqRequest ∧ t.readSlot = s.readSlot ∧ t.writeSlot = s.writeSlot) ∧
    (writePlace e.addr s ≠ none →
      t.nmiPending = s.nmiPending ∧ t.nmiDelay = s.nmiDelay ∧ t.irqRequest = s.irqRequest ∧
      t.stallCycles = s.stallCycles ∧ t.mapper = s.mapper ∧ t.readSlot = s.readSlot ∧ t.writeSlot = s.writeSlot ∧
      (pointersPlain f.operand s →
        ((entryOf f.opcode).cls = .write ∨ (s.readSlot[blockOf e.addr]).isPlain = true) →
        t.ppu = s.ppu ∧ t.deviceLog = s.deviceLog))

/-- The frame of the instructions that push, pull or read a pointer: a push changes only the bytes at 0x0100 | S going down; a
pull changes none. Where what they access is plain memory, no device, request, handler or latch changes. The requests and the
handlers change only by a mapper that can call back: that reads (a pull, a vector, a pointer), and pushes to an undefined
device, make no call is the model's choice (notes/assumptions/7 and 29). -/
def Obligations.StackFrame : Prop :=
  ∀ (b1 b2 : Byte) (s t : State), ∀ g ∈ stackForms b1 b2, exec g.1 s = .next t →
    g.2.2.Frame s.cpu t.cpu ∧
    t = { s with cpu := t.cpu, stepCycles := t.stepCycles, trace := t.trace, ppu := t.ppu, deviceLog := t.deviceLog,
                 nmiPending := t.nmiPending, nmiDelay := t.nmiDelay, irqRequest := t.irqRequest,
                 stallCycles := t.stallCycles, ram := t.ram, prgRam := t.prgRam, flat := t.flat, mapper := t.mapper,
                 readSlot := t.readSlot, writeSlot := t.writeSlot } ∧
    (∀ a : Word, (∀ k : Nat, k < g.2.1 → apart a (page1 (s.cpu.sp - BitVec.ofNat 8 k)) s) → readsSame a s t) ∧
    (s.mapper.callsBack = false →
      t.irqRequest = s.irqRequest ∧ t.readSlot = s.readSlot ∧ t.writeSlot = s.writeSlot) ∧
    (stackPlain g.1 s →
      t.ppu = s.ppu ∧ t.deviceLog = s.deviceLog ∧ t.nmiPending = s.nmiPending ∧ t.nmiDelay = s.nmiDelay ∧
      t.irqRequest = s.irqRequest ∧ t.stallCycles = s.stallCycles ∧ t.mapper = s.mapper ∧
      t.readSlot = s.readSlot ∧ t.writeSlot = s.writeSlot)

/-! ## The step -/

/-- R600, R607, R609, R610, R611: a step runs the decoded instruction. When nothing stands before the fetch and the three bytes
at PC are plain memory and decode to a well-formed instruction, the step is exec of that instruction, in the state with the
fetched bytes in the trace, and then the countdown, the total and the debug check, as `endsStep` writes them out. That a fetch
from the PRG-ROM of a mapper of the contract makes no call is the model's choice (notes/assumptions/29). -/
def Obligations.StepRunsTheDecodedInstruction : Prop :=
  ∀ (s : State) (i : Instr) (rest : List Byte), fetches s →
    (s.readSlot[blockOf s.cpu.pc]).isPlain = true →
    (s.readSlot[blockOf (s.cpu.pc + 1#16)]).isPlain = true →
    (s.readSlot[blockOf (s.cpu.pc + 2#16)]).isPlain = true →
    decode [(busRead s.cpu.pc s).1, (busRead (s.cpu.pc + 1#16) s).1, (busRead (s.cpu.pc + 2#16) s).1] = .ok i rest →
    i.wellFormed s.params.extraUnofficial = true →
    ∃ t u, exec i { s with
          stepCycles := 0
          trace := (List.range (1 + i.operand.bytes.length)).map fun k => .read (s.cpu.pc + BitVec.ofNat 16 k) } = .next t ∧
      step s = .next u ∧ endsStep false false t u

/-- R609, R616: no step faults and none is refused. -/
def Obligations.EveryStepAnswersNext : Prop := ∀ s : State, s.Completes

/-- The invariant of the machine is kept by every step, from every state that meets it. -/
def Obligations.StepKeepsTheInvariant : Prop := ∀ s t : State, s.Inv → step s = .next t → t.Inv

/-- The invariant holds right after reset. The reset values of RAM, the cartridge and the PPU's arrays are the model's own
choice (notes/assumptions/2, 3, 13). -/
def Obligations.ResetMeetsTheInvariant : Prop := State.reset.Inv

/-- R59, R61 to R63, R605, R608: what a step can do to the state the program does not own. The debug configuration, the
cartridge and the parameters stay; the total grows by the step's cycles; the fault list only grows, by the halt's record, and
then no register moved; the request mask is cleared whole by an IRQ service, and otherwise stays unless the mapper can call
back (R643); the handlers change only so too, and stay what the installs of the session and the mapper make (R641); `paused`
is never cleared. That an undefined device makes no request from inside an access, and that register writes and hooks alone
move a mapper, are the model's choices (notes/assumptions/7 and 29). -/
def Obligations.StepLeavesHostStateAlone : Prop :=
  ∀ s t : State, step s = .next t →
    t.debugCfg = s.debugCfg ∧ slotsKept s t ∧ t.cart = s.cart ∧ t.params = s.params ∧
    t.cycleTotal = s.cycleTotal + t.stepCycles ∧
    (t.faults = s.faults ∨
      ∃ op, t.faults = s.faults ++ [.illegalOpcode op s.cpu.pc] ∧ t.paused = true ∧ t.cpu = s.cpu ∧ t.stepCycles = 0 ∧
        (entryOf op).isMarker s.params.extraUnofficial = true) ∧
    ((t.irqRequest = 0#3 ∧ irqDue s = true) ∨ (s.mapper.callsBack = false → t.irqRequest = s.irqRequest)) ∧
    (s.paused = true → t.paused = true)

/-- R625: the debug configuration is invisible to the program. Under another configuration the same step answers the same state
but for the configuration itself and `paused`. -/
def Obligations.DebugStateIsInvisible : Prop :=
  ∀ (s : State) (d : Debug), ∃ t u : State, step s = .next t ∧ step (setDebug d s) = .next u ∧
    u.debugCfg = d ∧ { u with debugCfg := t.debugCfg, paused := t.paused } = t

/-- R601, R606, R617: a paused step reads and writes nothing and returns 0; with no interrupt to service, outstanding stall
cycles are consumed at once, without a bus access, and only the total and a pending NMI's delay count them. That a stall step
runs no debug check is R611's sentence against the listing of R600, and the model's reading (notes/assumptions/17). -/
def Obligations.PausedAndStallSteps : Prop :=
  ∀ s : State,
    (s.paused = true → step s = .next { s with stepCycles := 0, trace := [] }) ∧
    (s.paused = false → nmiDue s = false → irqDue s = false → 0 < s.stallCycles →
      step s = .next { s with
        stallCycles := 0, stepCycles := s.stallCycles, trace := [], cycleTotal := s.cycleTotal + s.stallCycles,
        nmiDelay := if s.nmiPending then s.nmiDelay - s.stallCycles else s.nmiDelay })

/-- R602 to R605, R610, R611, R617: interrupt service. A due NMI is serviced first, through 0xFFFA, and its latch is cleared;
else, with I = 0 and a request set, an IRQ through 0xFFFE, and the whole mask is cleared. The entry pushes PC, high byte
first, and the status with B = 0, sets I, and takes 7 cycles; no other register or flag changes; `endsStep` is its end. In R603
the spec marks as its own the unchanged registers and flags (D24), the exact accesses (D2) and the 7 cycles (D14), and as
general knowledge the order of the pushes, the setting of I and the vector addresses. -/
def Obligations.InterruptService : Prop :=
  ∀ s : State, s.paused = false →
    let entry (vector : Word) (u : State) : State :=
      let t := pushed (statusByte false u.cpu.p)
        (pushed (BitVec.ofNat 8 u.cpu.pc.toNat) (pushed (BitVec.ofNat 8 (u.cpu.pc.toNat / 256)) u))
      let lo := fetched vector { t with cpu := { t.cpu with p := { u.cpu.p with i := true } } }
      let hi := fetched (vector + 1#16) lo.2
      { hi.2 with
        cpu := { u.cpu with sp := u.cpu.sp - 3#8, p := { u.cpu.p with i := true },
                            pc := BitVec.ofNat 16 (256 * hi.1.toNat + lo.1.toNat) }
        stepCycles := 7 }
    (s.nmiPending = true → s.nmiDelay ≤ 0 →
      ∃ u, step s = .next u ∧
        endsStep true false (entry 0xFFFA#16 { s with nmiPending := false, nmiDelay := 0, stepCycles := 0, trace := [] }) u) ∧
    (¬(s.nmiPending = true ∧ s.nmiDelay ≤ 0) → s.irqRequest ≠ 0#3 → s.cpu.p.i = false →
      ∃ u, step s = .next u ∧
        endsStep false true { entry 0xFFFE#16 { s with stepCycles := 0, trace := [] } with irqRequest := 0#3 } u)

/-- R608, R618: fetching an unknown-marker opcode halts. Only the opcode is read; `paused` and the record are all that changes
beside the read's own effect; 0 cycles, no countdown, no debug check. Resumed with memory and PC as they were, it halts
again: for the PRG-ROM of a mapper of the contract by the model's choice that a read makes no call (notes/assumptions/29). The
spec marks the returned 0 and the record as decision D8. -/
def Obligations.IllegalOpcodeHalt : Prop :=
  ∀ s : State, fetches s → (entryOf (busRead s.cpu.pc s).1).isMarker s.params.extraUnofficial = true →
    let op := (busRead s.cpu.pc s).1
    let t : State := { (busRead s.cpu.pc s).2 with
      trace := [.read s.cpu.pc], paused := true, faults := s.faults ++ [.illegalOpcode op s.cpu.pc], stepCycles := 0 }
    step s = .next t ∧
    ((s.readSlot[blockOf s.cpu.pc]).isPlain = true →
      step (setPaused false t) = .next { t with faults := t.faults ++ [.illegalOpcode op s.cpu.pc] })

/-- R610, R612: an NMI requested before a step that executes an instruction, services an IRQ or consumes at least two stall cycles
is due at the next step. -/
def Obligations.NmiIsDueAtTheNextStep : Prop :=
  ∀ s t : State, s.paused = false → s.nmiPending = false → step (requestNmi s) = .next t →
    t.faults = s.faults → (fetches (requestNmi s) ∨ irqDue s = true ∨ 2 ≤ s.stallCycles) → nmiDue t = true

/-- R706, R604, R322, R323: CLI and SEI are seen by the very next step's IRQ test. After a step that executes CLI any request
makes an IRQ due; after one that executes SEI none does. The step itself leaves the requests as they are: for the PRG-ROM of a
mapper of the contract by the model's choice that a fetch makes no call (notes/assumptions/29). -/
def Obligations.InterruptMaskHasNoLatency : Prop :=
  ∀ s : State, fetches s → (s.readSlot[blockOf s.cpu.pc]).isPlain = true →
    ((busRead s.cpu.pc s).1 = 0x58#8 → ∃ t, step s = .next t ∧ t.irqRequest = s.irqRequest ∧
      ∀ m : BitVec 3, m ≠ 0#3 → irqDue { t with irqRequest := m } = true) ∧
    ((busRead s.cpu.pc s).1 = 0x78#8 → ∃ t, step s = .next t ∧ t.irqRequest = s.irqRequest ∧
      ∀ m : BitVec 3, irqDue { t with irqRequest := m } = false)

/-- R293, R603, R619: RTI undoes an interrupt entry. With RAM in block 0, from any vector, return address and break bit: PC is the
return address, S is back, and the flags are those of before, with B the pushed break bit and R = 1. That the vector read makes
no call, which could take RAM away, is the model's choice (notes/assumptions/7 and 29). -/
def Obligations.ReturnUndoesEntry : Prop :=
  ∀ (vector ret : Word) (b : Bool) (s : State), s.Inv → s.readSlot[(0 : Fin 8)] = .ram → s.writeSlot[(0 : Fin 8)] = .ram →
    ∃ u, exec .rti (enterException vector ret b s) = .next u ∧
      u.cpu = { s.cpu with pc := ret, p := { s.cpu.p with b := b, r := true } }

/-- R291, R292: RTS undoes JSR. With RAM in block 0 it returns to the instruction after the JSR, with S and every other register
as before. -/
def Obligations.ReturnUndoesCall : Prop :=
  ∀ (w : Word) (s : State), s.Inv → s.readSlot[(0 : Fin 8)] = .ram → s.writeSlot[(0 : Fin 8)] = .ram →
    ∃ t u, exec (.jsr w) s = .next t ∧ exec .rts t = .next u ∧ t.cpu.pc = w ∧
      u.cpu = { s.cpu with pc := s.cpu.pc + 3#16 }

/-! ## The Bus and its devices -/

/-- R102, R115, R631, R644: after a bus write to memory, every address of the written byte, its mirrors included, reads the value
written, and every plain address of another byte reads what it read before. The offset of PRG-RAM installed outside block 3
is the model's choice (notes/assumptions/24). -/
def Obligations.ReadAfterWrite : Prop :=
  ∀ (w a : Word) (v : Byte) (s : State), s.Inv →
    (writePlace w s ≠ none → readPlace a s = writePlace w s → (busRead a (busWrite w v s)).1 = v) ∧
    (apart a w s → readsSame a s (busWrite w v s)) ∧
    (s.readSlot[(0 : Fin 8)] = .ram → s.writeSlot[(0 : Fin 8)] = .ram → w.toNat < 8192 → a.toNat < 8192 →
      w.toNat % 2048 = a.toNat % 2048 → (busRead a (busWrite w v s)).1 = v)

/-- R103, R104, R105: a cleared map holds the stubs in every slot; an install replaces the slots from start >> 13 to end >> 13,
both included, and no other; an access through a stub changes nothing, and its read is the one fixed byte. -/
def Obligations.InstallingHandlers : Prop :=
  ∀ (first last a : Word) (h : Handler) (v : Byte) (s : State) (k : Fin 8),
    (clearMemoryMap s).readSlot[k] = .unmapped ∧ (clearMemoryMap s).writeSlot[k] = .unmapped ∧
    (setReadMemory first last h s).readSlot[k] =
      (if first.toNat / 8192 ≤ k.val ∧ k.val ≤ last.toNat / 8192 then h else s.readSlot[k]) ∧
    (setReadMemory first last h s).writeSlot = s.writeSlot ∧
    (setWriteMemory first last h s).writeSlot[k] =
      (if first.toNat / 8192 ≤ k.val ∧ k.val ≤ last.toNat / 8192 then h else s.writeSlot[k]) ∧
    (setWriteMemory first last h s).readSlot = s.readSlot ∧
    (s.readSlot[blockOf a] = .unmapped → busRead a s = (Config.unmappedReadValue, s)) ∧
    (s.writeSlot[blockOf a] = .unmapped → busWrite a v s = s)

/-- R644, R120: the reference mappers. NROM repeats its banks and ignores writes; a UxROM write selects the bank of
0x8000..0xBFFF for the very next access, and 0xC000..0xFFFF is always the last bank; their scanline hook does nothing. R104,
R120, R641, R643: a mapper of the contract reads each address at the PRG-ROM offset it has chosen for it last, whatever the
block and the offset; from a register write and from the hook it requests and withdraws any of the three sources, chooses
offsets and installs handlers over any blocks, which serve the very next access. Which calls it makes is the free value
Config.mapperCalls. The model's choices: that writes and hooks are a mapper's only inputs, and where it reads outside all its
windows and past the end of PRG-ROM (notes/assumptions/29); that mappers 0 and 2 take writes below 0x8000 as above, and the
offset of PRG-RAM outside block 3 (notes/assumptions/24); that a write to a register is not in the device history
(notes/assumptions/7). -/
def Obligations.MapperBanks : Prop :=
  ∀ (w a : Word) (d : Byte) (line : Nat) (s : State), 0 < s.cart.prgBanks →
    (s.mapper = .nrom → s.writeSlot[blockOf w] = .cartridge → busWrite w d s = s ∧ onHblank line s = s) ∧
    (s.mapper = .nrom → s.readSlot[blockOf a] = .cartridge → 0x8000 ≤ a.toNat →
      (busRead a s).1 = s.cart.prg.read ((a.toNat - 0x8000) % (16384 * s.cart.prgBanks))) ∧
    (∀ bank, s.mapper = .uxrom bank → s.writeSlot[blockOf w] = .cartridge → onHblank line s = s ∧
      busWrite w d s = { s with mapper := .uxrom (d.toNat % s.cart.prgBanks) } ∧
      (s.readSlot[blockOf a] = .cartridge → 0x8000 ≤ a.toNat → (busRead a (busWrite w d s)).1 =
        if a.toNat < 0xC000 then s.cart.prg.read (d.toNat % s.cart.prgBanks * 16384 + (a.toNat - 0x8000))
        else s.cart.prg.read ((s.cart.prgBanks - 1) * 16384 + (a.toNat - 0xC000)))) ∧
    (∀ windows installs inputs, s.mapper = .contract windows installs inputs →
      (s.readSlot[blockOf a] = .cartridge → (busRead a s).1 = s.cart.prg.read
        (windowOffset windows a % (16384 * s.cart.prgBanks))) ∧
      ∀ e t, (e = .write w d ∧ reachesMapper w s ∧ t = busWrite w d s) ∨ (e = .hblank line ∧ t = onHblank line s) →
        let calls := Config.mapperCalls (inputs ++ [e])
        t = { s with irqRequest := t.irqRequest, ppu := t.ppu, mapper := t.mapper, readSlot := t.readSlot,
                     writeSlot := t.writeSlot, deviceLog := t.deviceLog } ∧
        t.deviceLog = (if e = .write w d ∧ s.writeSlot[blockOf w] = .mapperDevice then s.deviceLog ++ [⟨w, some d⟩]
          else s.deviceLog) ∧
        t.mapper = .contract (windows ++ windowsOf calls) (installs ++ installsOf calls) (inputs ++ [e]) ∧
        (∀ q, t.irqRequest.getLsbD (sourceNumber q) = irqAfter q calls (s.irqRequest.getLsbD (sourceNumber q))) ∧
        (∀ k : Fin 8, t.readSlot[k] = readerAfter k (installsOf calls) s.readSlot[k] ∧
          t.writeSlot[k] = writerAfter k (installsOf calls) s.writeSlot[k]) ∧
        (t.readSlot[blockOf a] = .prgRam → (busRead a t).1 = s.prgRam.read (a.toNat % 8192)) ∧
        (t.readSlot[blockOf a] = .cartridge → (busRead a t).1 = s.cart.prg.read
          (windowOffset (windows ++ windowsOf calls) a % (16384 * s.cart.prgBanks))))

/-- R632, R634: the two-stage latch, by bus writes to the window's SCROLL, ADDR and CTRL addresses. Two ADDR writes select the
VRAM address; two SCROLL writes fill the scroll fields and leave the nametable bits; a SCROLL write then an ADDR write is one
pair; each turns the latch over and changes the PPU alone; a CTRL write sets the nametable bits and leaves the latch. -/
def Obligations.PpuWriteLatch : Prop :=
  ∀ (aC aS aA : Word) (d1 d2 : Byte) (s : State),
    s.writeSlot[blockOf aC] = .ppu → s.writeSlot[blockOf aS] = .ppu → s.writeSlot[blockOf aA] = .ppu →
    aC.toNat % 8 = 0 → aS.toNat % 8 = 5 → aA.toNat % 8 = 6 →
    let p := s.ppu
    (p.w = false →
      (let q := (busWrite aA d2 (busWrite aA d1 s)).ppu
       q.w = false ∧ q.v.toNat = d1.toNat % 64 * 256 + d2.toNat ∧ q.current.t = q.v ∧ q.current.x = p.current.x) ∧
      (let q := (busWrite aS d2 (busWrite aS d1 s)).ppu
       q.w = false ∧ q.v = p.v ∧ q.current.x.toNat = d1.toNat % 8 ∧
       q.current.t.toNat = d1.toNat / 8 + d2.toNat / 8 * 32 + p.current.t.toNat / 1024 % 4 * 1024 + d2.toNat % 8 * 4096) ∧
      (let q := (busWrite aA d2 (busWrite aS d1 s)).ppu
       q.w = false ∧ q.v = q.current.t ∧ q.v.toNat = p.current.t.toNat / 256 * 256 + d2.toNat) ∧
      (busWrite aA d1 s).ppu.v = p.v) ∧
    (busWrite aA d1 s).ppu.w = !p.w ∧ (busWrite aS d1 s).ppu.w = !p.w ∧
    busWrite aA d1 s = { s with ppu := (busWrite aA d1 s).ppu } ∧
    busWrite aS d1 s = { s with ppu := (busWrite aS d1 s).ppu } ∧
    (let q := (busWrite aC d1 s).ppu
     q.w = p.w ∧ q.v = p.v ∧ q.current.ctrl = d1 ∧ q.current.x = p.current.x ∧
     q.current.t.toNat = p.current.t.toNat % 1024 + d1.toNat % 4 * 1024 + p.current.t.toNat / 4096 * 4096)

/-- R635, R632: DATA by bus accesses to the window. A write stores at v, a read answers and refills the buffer as R635 says, and
both advance v by 32 or 1 as CTRL[2] says. Write two bytes to two sequential addresses, select the first again, and read: below
the palette range the first read returns the byte buffered before and the next two return the bytes written; in the palette
range the reads return them at once. -/
def Obligations.PpuDataBuffer : Prop :=
  ∀ (aA aD : Word) (hi lo d1 d2 : Byte) (s : State),
    s.writeSlot[blockOf aA] = .ppu → s.writeSlot[blockOf aD] = .ppu → s.readSlot[blockOf aD] = .ppu →
    aA.toNat % 8 = 6 → aD.toNat % 8 = 7 →
    let inc := if s.ppu.current.ctrl.toNat / 4 % 2 = 1 then 32 else 1
    let v := s.ppu.v.toNat
    let palette := 0x3F00 ≤ v % 0x4000
    busWrite aD d1 s = { s with
      ppu := { vramWrite s.cart (BitVec.ofNat 14 v) d1 s.ppu with v := BitVec.ofNat 15 (v + inc) } } ∧
    (palette → busRead aD s = (vramRead s.cart s.ppu (BitVec.ofNat 14 v),
      { s with ppu := { s.ppu with
          v := BitVec.ofNat 15 (v + inc), buffer := vramRead s.cart s.ppu (BitVec.ofNat 14 (v - 0x1000)) } })) ∧
    (¬palette → busRead aD s = (s.ppu.buffer,
      { s with ppu := { s.ppu with
          v := BitVec.ofNat 15 (v + inc), buffer := vramRead s.cart s.ppu (BitVec.ofNat 14 v) } })) ∧
    (s.ppu.w = false → s.ppu.vram.wf = true →
      let a := hi.toNat % 64 * 256 + lo.toNat
      let q := busWrite aA lo (busWrite aA hi (busWrite aD d2 (busWrite aD d1 (busWrite aA lo (busWrite aA hi s)))))
      let r1 := busRead aD q
      let r2 := busRead aD r1.2
      let r3 := busRead aD r2.2
      (a + inc < 0x3F00 → (s.cart.hasChrRom = false ∨ 0x2000 ≤ a) →
        r1.1 = s.ppu.buffer ∧ r2.1 = d1 ∧ (a + 2 * inc < 0x3F00 → r3.1 = d2)) ∧
      (inc = 1 → 0x3F00 ≤ a → a + 1 < 0x4000 → r1.1 = d1 ∧ r2.1 = d2))

/-- R636: the video address decode. The nametable quadrants alias onto the banks the descriptor names, 0x3000..0x3EFF mirrors
0x2000..0x2EFF, the palette repeats every 32 bytes with the four background copies, and every index is inside the array;
with CHR-ROM the pattern range reads the bank's offset and ignores writes. -/
def Obligations.VideoAddressDecode : Prop :=
  ∀ (rom : Bool) (h : HStatus) (a : BitVec 14),
    (0x2000 ≤ a.toNat → a.toNat < 0x3F00 → videoTarget rom h a = .video
      (0x2000 + h.mirror.toNat / 4 ^ (a.toNat / 1024 % 4) % 4 * 1024 + a.toNat % 1024)) ∧
    (0x3F00 ≤ a.toNat → videoTarget rom h a = .video
      (0x3F00 + if a.toNat % 32 ∈ [16, 20, 24, 28] then a.toNat % 32 - 16 else a.toNat % 32)) ∧
    (a.toNat < 0x2000 → videoTarget false h a = .video a.toNat ∧
      videoTarget true h a = .chrRom ((h.chrBank.toList.getD (a.toNat / 1024) 0) + a.toNat % 1024)) ∧
    (∀ i, videoTarget rom h a = .video i → i < 16384) ∧
    (∀ (c : Cartridge) (d : Byte) (p : Ppu), c.hasChrRom = true → a.toNat < 0x2000 → vramWrite c a d p = p)

/-- R632, R633, R637, R109: the other registers through the window. STATUS gives VBlank, sprite-zero hit and overflow in bits
7, 6, 5 and 0 below, and then clears VBlank and the latch; a second read has bit 7 clear. OAMDATA reads do not move the index.
A write-only register answers from the oracle (whose history is the model's field, notes/assumptions/7) and changes no PPU
state. CTRL and MASK store their byte, OAMADDR the index, an OAMDATA write stores at the index and moves it on by one, and a
write to STATUS does nothing. -/
def Obligations.PpuRegisterAccess : Prop :=
  ∀ (a : Word) (d : Byte) (s : State),
    (s.readSlot[blockOf a] = .ppu →
      (a.toNat % 8 = 2 →
        (busRead a s).1.toNat = 128 * s.ppu.vblank.toNat + 64 * s.ppu.spriteZero.toNat + 32 * s.ppu.overflow.toNat ∧
        (busRead a s).2 = { s with ppu := { s.ppu with vblank := false, w := false } } ∧
        (busRead a (busRead a s).2).1.toNat < 128) ∧
      (a.toNat % 8 = 4 → busRead a s = (s.ppu.oam.read s.ppu.oamAddr.toNat, s)) ∧
      (a.toNat % 8 = 0 ∨ a.toNat % 8 = 1 ∨ a.toNat % 8 = 3 ∨ a.toNat % 8 = 5 ∨ a.toNat % 8 = 6 →
        (busRead a s).2.ppu = s.ppu ∧ (busRead a s).2.deviceLog.length = s.deviceLog.length + 1 ∧
        (busRead a s).1 = Config.deviceRead (busRead a s).2.deviceLog a)) ∧
    (s.writeSlot[blockOf a] = .ppu →
      let t := busWrite a d s
      (a.toNat % 8 = 0 → t.ppu.current.ctrl = d) ∧
      (a.toNat % 8 = 1 → t = { s with ppu := t.ppu } ∧ t.ppu.current = { s.ppu.current with mask := d }) ∧
      (a.toNat % 8 = 2 → t = s) ∧
      (a.toNat % 8 = 3 → t = { s with ppu := { s.ppu with oamAddr := d } }) ∧
      (a.toNat % 8 = 4 → s.ppu.oam.wf = true →
        t = { s with ppu := { s.ppu with oam := t.ppu.oam,
                                         oamAddr := BitVec.ofNat 8 (s.ppu.oamAddr.toNat + 1) } } ∧
        ∀ i : Nat, t.ppu.oam.read i = if i = s.ppu.oamAddr.toNat then d else s.ppu.oam.read i))

/-- R640: a write of d to 0x4014 copies the 256 bytes of page d into OAM from oamAddr on, wrapping, leaves oamAddr, and steals
OAM_DMA_STALL of the parity of cycleTotal. From a page of plain memory nothing else changes: from the PRG-ROM of a mapper of the
contract by the model's choice that a read makes no call (notes/assumptions/29). -/
def Obligations.OamDmaCopiesAPage : Prop :=
  ∀ (d : Byte) (s : State), s.Inv → s.writeSlot[(2 : Fin 8)] = .apuIo →
    (s.readSlot[blockOf (BitVec.ofNat 16 (256 * d.toNat))]).isPlain = true →
    let t := busWrite 0x4014#16 d s
    (∀ i : Nat, i < 256 →
      t.ppu.oam.read ((s.ppu.oamAddr.toNat + i) % 256) = (busRead (BitVec.ofNat 16 (256 * d.toNat + i)) s).1) ∧
    t = { s with ppu := { s.ppu with oam := t.ppu.oam },
                 stallCycles := s.stallCycles + Config.oamDmaStall (s.cycleTotal % 2) }

/-- R637, R638, R639, R646: the host's scanline tick. The index runs 0 to 261 and wraps; entering 241 sets VBlank, hands the event
buffer over and, with CTRL[7] = 1, requests an NMI; entering 261 clears the three STATUS bits; no other line touches VBlank
or the buffers; then the mapper's hook is called, which may move the handlers (R641). The order of the snapshot copies, the clearing after the sprite oracle and
the hook after the PPU are the model's choices (notes/assumptions/14, 8 and 23). -/
def Obligations.ScanlineTick : Prop :=
  ∀ s : State, s.ppu.scanline ≤ 261 →
    let t := ppuTick s
    scanlineTick s = onHblank ((s.ppu.scanline + 1) % 262) t ∧ (scanlineTick s).cpu = s.cpu ∧
    (s.mapper.callsBack = false → scanlineTick s = t) ∧ slotsKept s (scanlineTick s) ∧
    t.ppu.scanline = (s.ppu.scanline + 1) % 262 ∧ t.ppu.current = s.ppu.current ∧
    (s.ppu.scanline = 240 → t.ppu.vblank = true ∧ t.ppu.finished = s.ppu.recording ∧ t.ppu.recording = [] ∧
      t.ppu.lastFrame = s.ppu.save ∧ t.ppu.save = s.ppu.current ∧
      (s.ppu.current.ctrl.getLsbD 7 = true → t.nmiPending = true ∧ (s.nmiPending = false → t.nmiDelay = 2)) ∧
      (s.ppu.current.ctrl.getLsbD 7 = false → t.nmiPending = s.nmiPending ∧ t.nmiDelay = s.nmiDelay)) ∧
    (s.ppu.scanline = 260 → t.ppu.vblank = false ∧ t.ppu.spriteZero = false ∧ t.ppu.overflow = false) ∧
    (s.ppu.scanline ≠ 240 → s.ppu.scanline ≠ 260 → t.ppu.vblank = s.ppu.vblank ∧ t.ppu.recording = s.ppu.recording ∧
      t.ppu.finished = s.ppu.finished ∧ t.nmiPending = s.nmiPending ∧ t.nmiDelay = s.nmiDelay)

/-- R638, R641: a write to CTRL, MASK, SCROLL or ADDR through the register window, and a mapper's change of a CHR bank or of the
mirroring, is logged with its scanline exactly when rendering was enabled and the scanline is visible; a write to OAMADDR,
OAMDATA, STATUS or DATA never is. That the enable is judged before the write, and that a CTRL write logs one record and a SCROLL
or ADDR write one with the new t and x, are the model's choices (notes/assumptions/15 and 16). -/
def Obligations.EventLog : Prop :=
  ∀ (a : Word) (d : Byte) (i : Fin 8) (offset : Nat) (s : State),
    let on : Bool := decide (8 ≤ s.ppu.current.mask.toNat % 32 ∧ s.ppu.scanline < 240)
    let logs (t : State) (c : PpuChange) : Prop :=
      t.ppu.recording = if on then s.ppu.recording ++ [⟨s.ppu.scanline, c⟩] else s.ppu.recording
    let t := busWrite a d s
    (s.writeSlot[blockOf a] = .ppu →
      (a.toNat % 8 = 0 → logs t (.ctrl d)) ∧ (a.toNat % 8 = 1 → logs t (.mask d)) ∧
      (a.toNat % 8 = 5 ∨ a.toNat % 8 = 6 → logs t (.scroll t.ppu.current.t t.ppu.current.x)) ∧
      (a.toNat % 8 = 2 ∨ a.toNat % 8 = 3 ∨ a.toNat % 8 = 4 ∨ a.toNat % 8 = 7 → t.ppu.recording = s.ppu.recording)) ∧
    (logs (setChrBankOffset i offset s) (.chrBank i offset) ∧
      (setChrBankOffset i offset s).ppu.current = { s.ppu.current with chrBank := s.ppu.current.chrBank.set i offset }) ∧
    (logs (setMirrorMode d s) (.mirror d) ∧ (setMirrorMode d s).ppu.current = { s.ppu.current with mirror := d })

/-! ## The host's calls -/

/-- R700, R701, R703: reset. S is decremented by 3, I is set, PC comes from 0xFFFC and 0xFFFD, pending interrupts and stalls are
cleared, and with a plain vector block nothing else changes: no other register or flag, no memory, not `paused`, no cycle. For
the PRG-ROM of a mapper of the contract that is the model's choice that a read makes no call (notes/assumptions/29). -/
def Obligations.ResetProcedure : Prop :=
  ∀ s : State, (s.readSlot[(7 : Fin 8)]).isPlain = true →
    cpuReset s = { s with
      cpu := { s.cpu with sp := s.cpu.sp - 3#8, p := { s.cpu.p with i := true },
                          pc := BitVec.ofNat 16 (256 * (busRead 0xFFFD#16 s).1.toNat + (busRead 0xFFFC#16 s).1.toNat) }
      nmiPending := false, nmiDelay := 0, irqRequest := 0#3, stallCycles := 0 }

/-- R612 to R615: the request operations. requestNmi latches with a delay of 2 and does nothing while one is pending; requestIrq
sets and clearIrqRequest clears the one bit of its source, and any source outside 0, 1, 2 is refused; stall accumulates. The
spec marks as its own that a second requestNmi changes nothing (D4), the refusal (D31) and that stalls add up (D7). -/
def Obligations.RequestOperations : Prop :=
  ∀ (s : State) (n : Nat),
    (s.nmiPending = false → requestNmi s = { s with nmiPending := true, nmiDelay := 2 }) ∧
    (s.nmiPending = true → requestNmi s = s) ∧
    (n < 3 → ∃ t u, requestIrq n s = .next t ∧ clearIrqRequest n s = .next u ∧
      t = { s with irqRequest := t.irqRequest } ∧ u = { s with irqRequest := u.irqRequest } ∧
      ∀ k, k < 3 → t.irqRequest.getLsbD k = (s.irqRequest.getLsbD k || decide (k = n)) ∧
        u.irqRequest.getLsbD k = (s.irqRequest.getLsbD k && decide (k ≠ n))) ∧
    (3 ≤ n → requestIrq n s = .refused (.irqSource n) ∧ clearIrqRequest n s = .refused (.irqSource n)) ∧
    (∀ m, stall m (stall n s) = { s with stallCycles := s.stallCycles + n + m })

/-- R47 to R50: the packed status byte at its three boundaries. A push has bit 5 = 1 and bit 4 as the push supplies, whatever the R
and B cells hold; a pull writes all eight cells; the host reads the stored cells, so a pull of what it reads restores them. The
spec marks the bit order (R47) as general knowledge and the boundaries (R48 to R50) as decision D11. -/
def Obligations.StatusByteBoundaries : Prop :=
  ∀ (p : Flags) (b : Bool) (v : Byte),
    pack b p = statusByte b p ∧ unpack v = statusFlags v ∧ unpack (pack b p) = { p with b := b, r := true } ∧
    unpack (packStored p) = p ∧ packStored (unpack v) = v

/-- R65, R647: restoring a saved state. In a session with the same cartridge and parameters, load of a save
gives the state that was saved but for the fault records and the last step's count and accesses; and states that are
equal so far stay so, with the same cycle counts and bus accesses, under every step and under the host's calls. That cycleTotal,
the device log and the flat harness are in a save and the fault records are not is the model's choice (notes/assumptions/22). -/
def Obligations.LoadOfSave : Prop :=
  (∀ s t : State, installDevices s = s → t.cart = s.cart → t.params = s.params →
    sameButRecords (loadState (saveState s) t) s) ∧
  (∀ u v : State, sameButRecords u v →
    (∃ u' v', step u = .next u' ∧ step v = .next v' ∧ sameButRecords u' v' ∧ u'.stepCycles = v'.stepCycles ∧
      u'.trace = v'.trace) ∧
    sameButRecords (scanlineTick u) (scanlineTick v) ∧ sameButRecords (cpuReset u) (cpuReset v) ∧
    sameButRecords (requestNmi u) (requestNmi v) ∧
    (∀ q, sameButRecords (assertIrq q u) (assertIrq q v) ∧ sameButRecords (withdrawIrq q u) (withdrawIrq q v)) ∧
    (∀ n, sameButRecords (stall n u) (stall n v)) ∧ (∀ p, sameButRecords (setPaused p u) (setPaused p v)) ∧
    (∀ d, sameButRecords (setDebug d u) (setDebug d v)))

/-- R645, R644, R630, R702: starting a session. An image without the magic, or with a mapper other than 0 and 2, is refused before
any execution; a complete image with the magic and mapper 0 or 2 starts with S = 0xFD, I = 1, A = X = Y = 0, PC from the
image's own vector bytes (at 0x7FFC of the repeated PRG-ROM for mapper 0, at the end of the last bank for mapper 2), and the
invariant, with its handlers as installed. That the trainer's bytes and bytes left over after the CHR-ROM are dropped is the
model's choice (notes/assumptions/21). -/
def Obligations.SessionStart : Prop :=
  ∀ (image : List Byte) (ram : Memory), ram.ok 2048 = true →
    let h (k : Nat) : Nat := (image.getD k 0#8).toNat
    let number := h 7 / 16 * 16 + h 6 / 16
    let base := if h 6 / 4 % 2 = 1 then 528 else 16
    let vector := base + if number = 0 then 0x7FFC % (16384 * h 4) else 16384 * h 4 - 4
    (image.take 4 ≠ [0x4E#8, 0x45#8, 0x53#8, 0x1A#8] → startSession image ram = .refused .badMagic) ∧
    (image.take 4 = [0x4E#8, 0x45#8, 0x53#8, 0x1A#8] → number ≠ 0 → number ≠ 2 →
      startSession image ram = .refused (.unsupportedMapper number)) ∧
    (image.take 4 = [0x4E#8, 0x45#8, 0x53#8, 0x1A#8] → (number = 0 ∨ number = 2) → 0 < h 4 →
      base + 16384 * h 4 + 8192 * h 5 ≤ image.length →
      ∃ s, startSession image ram = .next s ∧ s.Inv ∧ installDevices s = s ∧ s.ram = ram ∧ s.cpu.sp = 0xFD#8 ∧ s.cpu.p.i = true ∧
        s.cpu.a = 0#8 ∧ s.cpu.x = 0#8 ∧ s.cpu.y = 0#8 ∧ s.paused = false ∧
        s.cpu.pc.toNat = 256 * h (vector + 1) + h vector)
end

