-- ==== Sys2Proof/Laws/Address.lean ====
section
/-! SUPPORT. The address computations in integer terms: one lemma per computation. -/

namespace Sys2Proof.Machine

theorem zeroExtend16_eq (z : Byte) : zeroExtend16 z = BitVec.ofNat 16 z.toNat := by
  apply BitVec.eq_of_toNat_eq; simp [zeroExtend16]

/-- A zero-page sum wraps in page 0 (R157, R158, R160). -/
theorem zeroExtend16_add (z x : Byte) : zeroExtend16 (z + x) = BitVec.ofNat 16 ((z.toNat + x.toNat) % 256) := by
  rw [zeroExtend16_eq, BitVec.toNat_add]

/-- An indexed address wraps modulo 2^16 (R163, R164). -/
theorem add_zeroExtend16 (w : Word) (x : Byte) : w + zeroExtend16 x = BitVec.ofNat 16 (w.toNat + x.toNat) := by
  apply BitVec.eq_of_toNat_eq; simp [zeroExtend16_eq]

theorem page_eq (w : Word) : w &&& 0xFF00#16 = BitVec.ofNat 16 (w.toNat / 256 * 256) := by
  apply BitVec.eq_of_getLsbD_eq
  intro i hi
  have h : ∀ k : Nat, k < 16 → (0xFF00#16).getLsbD k = decide (8 ≤ k) := by decide
  rw [BitVec.getLsbD_and, h i hi, BitVec.getLsbD_ofNat, show (256 : Nat) = 2 ^ 8 from rfl, Nat.testBit_mul_two_pow,
    Nat.testBit_div_two_pow]
  simp only [hi, decide_true, Bool.true_and]
  by_cases h8 : 8 ≤ i
  · simp only [h8, decide_true, Bool.and_true, Bool.true_and]
    exact congrArg (fun k => w.toNat.testBit k) (by omega)
  · simp [h8]

/-- A page crossing is a change of the high byte (R161, R163, R164, R710). -/
theorem pageCrossed_eq (a b : Word) : pageCrossed a b = decide (a.toNat / 256 ≠ b.toNat / 256) := by
  have h1 : (a ^^^ b) &&& 0xFF00#16 = (a &&& 0xFF00#16) ^^^ (b &&& 0xFF00#16) := by
    ext i; simp; cases a[i] <;> cases b[i] <;> simp
  simp only [pageCrossed, h1]
  rw [Bool.eq_iff_iff]
  simp only [bne_iff_ne, ne_eq, BitVec.xor_eq_zero_iff, decide_eq_true_eq, page_eq]
  rw [not_iff_not]
  have := a.isLt
  have := b.isLt
  rw [← BitVec.toNat_inj]; simp; omega

/-- A carry out of the low byte is the page crossing of an indexed address. -/
theorem pageCrossed_indexed (w : Word) (x : Byte) :
    pageCrossed w (w + zeroExtend16 x) = decide (256 ≤ w.toNat % 256 + x.toNat) := by
  rw [pageCrossed_eq, decide_eq_decide, add_zeroExtend16]
  have := w.isLt
  have := x.isLt
  simp; omega

theorem joinBytes_eq (h l : Byte) : joinBytes h l = BitVec.ofNat 16 (256 * h.toNat + l.toNat) := by
  have := h.isLt
  have := l.isLt
  apply BitVec.eq_of_toNat_eq
  simp only [joinBytes, BitVec.toNat_append, BitVec.toNat_ofNat]
  rw [← Nat.shiftLeft_add_eq_or_of_lt l.isLt, Nat.shiftLeft_eq]; omega

/-- The second pointer byte of JMP indirect stays in the page (R159). -/
theorem samePage_eq (w : Word) :
    (w &&& 0xFF00#16) ||| ((w + 1#16) &&& 0x00FF#16) = BitVec.ofNat 16 (w.toNat / 256 * 256 + (w.toNat + 1) % 256) := by
  have h2 : (w + 1#16) &&& 0x00FF#16 = BitVec.ofNat 16 ((w.toNat + 1) % 256) := by
    apply BitVec.eq_of_toNat_eq
    rw [BitVec.toNat_and, show (0x00FF#16).toNat = 2 ^ 8 - 1 from rfl, Nat.and_two_pow_sub_one_eq_mod]
    simp only [BitVec.toNat_add, BitVec.toNat_ofNat]
    have := w.isLt
    omega
  rw [page_eq, h2]
  apply BitVec.eq_of_toNat_eq
  have hw := w.isLt
  rw [BitVec.toNat_or, BitVec.toNat_ofNat, BitVec.toNat_ofNat, BitVec.toNat_ofNat,
    Nat.mod_eq_of_lt (a := w.toNat / 256 * 256) (by omega), Nat.mod_eq_of_lt (a := (w.toNat + 1) % 256) (by omega),
    Nat.mod_eq_of_lt (a := w.toNat / 256 * 256 + (w.toNat + 1) % 256) (by omega)]
  have h := Nat.shiftLeft_add_eq_or_of_lt (b := (w.toNat + 1) % 256) (i := 8) (by omega) (w.toNat / 256)
  rw [Nat.shiftLeft_eq] at h
  exact h.symm

/-- The stack is page 1 (R44). -/
theorem stackAddress_eq (sp : Byte) : stackAddress sp = BitVec.ofNat 16 (256 + sp.toNat) := by
  have h : ∀ q : Byte, stackAddress q = BitVec.ofNat 16 (256 + q.toNat) := by decide
  exact h sp

end Sys2Proof.Machine
end

