-- ==== Sys2Proof/Laws/Memory.lean ====
section
/-! SUPPORT. The basic laws of the byte arrays: a read after a write, what a write leaves alone, the canonical form and the
size, and that equal contents are equal data. -/

namespace Sys2Proof.Machine

@[simp] theorem Memory.read_nil (a : Nat) : Memory.read [] a = Memory.unlisted := rfl

theorem Memory.wfFrom_cons (lo k : Nat) (v : Byte) (rest : Memory) :
    Memory.wfFrom lo ((k, v) :: rest) = true ↔ lo ≤ k ∧ v ≠ Memory.unlisted ∧ Memory.wfFrom (k + 1) rest = true := by
  simp [Memory.wfFrom, and_assoc]

theorem Memory.within_cons (size k : Nat) (v : Byte) (rest : Memory) :
    Memory.within size ((k, v) :: rest) = true ↔ k < size ∧ Memory.within size rest = true := by
  simp [Memory.within]

theorem Memory.wfFrom_mono {m : Memory} {lo lo' : Nat} (hl : lo' ≤ lo) (h : Memory.wfFrom lo m) : Memory.wfFrom lo' m := by
  cases m with
  | nil => rfl
  | cons c rest => rw [Memory.wfFrom_cons] at h ⊢; exact ⟨by omega, h.2⟩

/-- Below the least listed index everything is unlisted. -/
theorem Memory.read_below {m : Memory} {lo a : Nat} (h : Memory.wfFrom lo m) (ha : a < lo) :
    m.read a = Memory.unlisted := by
  induction m generalizing lo with
  | nil => rfl
  | cons c rest ih =>
    obtain ⟨k, w⟩ := c
    rw [Memory.wfFrom_cons] at h
    simp only [Memory.read]; rw [if_neg (by omega)]; exact ih h.2.2 (by omega)

/-- A read after a write to the same index gives the value written. -/
theorem Memory.read_write_same (m : Memory) (a : Nat) (v : Byte) (h : m.wf) : (m.write a v).read a = v := by
  have key : ∀ (m : Memory) (lo : Nat), Memory.wfFrom lo m → (m.write a v).read a = v := by
    intro m
    induction m with
    | nil => intro lo _; simp only [Memory.write]; split <;> simp_all [Memory.read]
    | cons c rest ih =>
      intro lo hw
      obtain ⟨k, w⟩ := c
      rw [Memory.wfFrom_cons] at hw
      simp only [Memory.write]
      split
      · split
        · subst v; simp only [Memory.read]; rw [if_neg (by omega)]; exact Memory.read_below hw.2.2 (by omega)
        · simp [Memory.read]
      · split
        · split
          · subst v; exact Memory.read_below hw.2.2 (by omega)
          · simp [Memory.read]
        · simp only [Memory.read]; rw [if_neg (by omega)]; exact ih (k + 1) hw.2.2
  exact key m 0 h

/-- A write leaves every other index alone. -/
theorem Memory.read_write_other (m : Memory) (a b : Nat) (v : Byte) (hab : b ≠ a) : (m.write a v).read b = m.read b := by
  induction m with
  | nil => simp only [Memory.write]; split <;> simp [Memory.read, Ne.symm hab]
  | cons c rest ih =>
    obtain ⟨k, w⟩ := c
    simp only [Memory.write]
    split
    · split <;> simp [Memory.read, Ne.symm hab]
    · split
      · subst k; split <;> simp [Memory.read, Ne.symm hab]
      · simp only [Memory.read, ih]

/-- A write keeps the canonical form. -/
theorem Memory.wf_write (m : Memory) (a : Nat) (v : Byte) (h : m.wf) : (m.write a v).wf := by
  have key : ∀ (m : Memory) (lo : Nat), lo ≤ a → Memory.wfFrom lo m → Memory.wfFrom lo (m.write a v) := by
    intro m
    induction m with
    | nil => intro lo hl _; simp only [Memory.write]; split <;> simp_all [Memory.wfFrom]
    | cons c rest ih =>
      intro lo hl hw
      obtain ⟨k, w⟩ := c
      have h' := (Memory.wfFrom_cons lo k w rest).1 hw
      simp only [Memory.write]
      split
      · split
        · exact hw
        · rw [Memory.wfFrom_cons, Memory.wfFrom_cons]; exact ⟨hl, ‹_›, by omega, h'.2⟩
      · split
        · subst k
          split
          · exact Memory.wfFrom_mono (by omega) h'.2.2
          · rw [Memory.wfFrom_cons]; exact ⟨hl, ‹_›, h'.2.2⟩
        · rw [Memory.wfFrom_cons]; exact ⟨h'.1, h'.2.1, ih (k + 1) (by omega) h'.2.2⟩
  exact key m 0 (Nat.zero_le _) h

/-- A write inside the array stays inside it. -/
theorem Memory.within_write (size : Nat) (m : Memory) (a : Nat) (v : Byte) (h : m.within size) (ha : a < size) :
    (m.write a v).within size := by
  induction m with
  | nil => simp only [Memory.write]; split <;> simp_all [Memory.within]
  | cons c rest ih =>
    obtain ⟨k, w⟩ := c
    have h' := (Memory.within_cons size k w rest).1 h
    simp only [Memory.write]
    split
    · split
      · exact h
      · rw [Memory.within_cons]; exact ⟨ha, h⟩
    · split
      · split
        · exact h'.2
        · rw [Memory.within_cons]; exact ⟨ha, h'.2⟩
      · rw [Memory.within_cons]; exact ⟨h'.1, ih h'.2⟩

/-- Both together: an array that is canonical and inside its size stays so. -/
theorem Memory.ok_write (size : Nat) (m : Memory) (a : Nat) (v : Byte) (h : m.ok size = true) (ha : a < size) :
    (m.write a v).ok size = true := by
  simp only [Memory.ok, Bool.and_eq_true] at h ⊢
  exact ⟨Memory.wf_write m a v h.1, Memory.within_write size m a v h.2 ha⟩

theorem Memory.ok_wf {size : Nat} {m : Memory} (h : m.ok size = true) : m.wf = true := by
  simp only [Memory.ok, Bool.and_eq_true] at h; exact h.1

/-- An index outside the array reads as an unlisted one. -/
theorem Memory.read_outside {size : Nat} {m : Memory} (h : m.within size) {a : Nat} (ha : size ≤ a) :
    m.read a = Memory.unlisted := by
  induction m with
  | nil => rfl
  | cons c rest ih =>
    obtain ⟨k, w⟩ := c
    rw [Memory.within_cons] at h
    simp only [Memory.read]; rw [if_neg (by omega)]; exact ih h.2

/-- Equal contents are equal data: the canonical form is one list for each function from indexes to bytes. -/
theorem Memory.ext_of_read {m m' : Memory} (h : m.wf) (h' : m'.wf) (e : ∀ a, m.read a = m'.read a) : m = m' := by
  have key : ∀ (m : Memory) (lo : Nat) (m' : Memory), Memory.wfFrom lo m → Memory.wfFrom lo m' →
      (∀ a, m.read a = m'.read a) → m = m' := by
    intro m
    induction m with
    | nil =>
      intro lo m' _ h' e
      cases m' with
      | nil => rfl
      | cons c rest =>
        obtain ⟨k, w⟩ := c
        rw [Memory.wfFrom_cons] at h'
        exact absurd (e k).symm (by simp [Memory.read, h'.2.1])
    | cons c rest ih =>
      intro lo m' h h' e
      obtain ⟨k, w⟩ := c
      cases m' with
      | nil =>
        rw [Memory.wfFrom_cons] at h
        exact absurd (e k) (by simp [Memory.read, h.2.1])
      | cons c' rest' =>
        obtain ⟨k', w'⟩ := c'
        rw [Memory.wfFrom_cons] at h h'
        have hk : k = k' := by
          rcases Nat.lt_trichotomy k k' with hlt | heq | hgt
          · have := e k
            simp only [Memory.read, if_true] at this
            rw [if_neg (by omega), Memory.read_below h'.2.2 (by omega)] at this
            exact absurd this h.2.1
          · exact heq
          · have := e k'
            simp only [Memory.read, if_true] at this
            rw [if_neg (by omega), Memory.read_below h.2.2 (by omega)] at this
            exact absurd this.symm h'.2.1
        subst hk
        have hw : w = w' := by simpa [Memory.read] using e k
        subst hw
        rw [ih (k + 1) rest' h.2.2 h'.2.2]
        intro a
        rcases Nat.lt_trichotomy a k with hlt | heq | hgt
        · rw [Memory.read_below h.2.2 (by omega), Memory.read_below h'.2.2 (by omega)]
        · subst heq; rw [Memory.read_below h.2.2 (by omega), Memory.read_below h'.2.2 (by omega)]
        · have := e a
          simp only [Memory.read] at this
          rwa [if_neg (by omega), if_neg (by omega)] at this
  exact key m 0 m' h h' e

theorem Memory.wfFrom_ofBytes (l : List Byte) : ∀ a : Nat, Memory.wfFrom a (Memory.ofBytes a l) := by
  induction l with
  | nil => intro a; rfl
  | cons v rest ih =>
    intro a
    simp only [Memory.ofBytes]
    split
    · exact Memory.wfFrom_mono (by omega) (ih (a + 1))
    · rw [Memory.wfFrom_cons]; exact ⟨Nat.le_refl a, ‹_›, ih (a + 1)⟩

/-- The canonical memory of a list of bytes is canonical. -/
theorem Memory.wf_ofBytes (a : Nat) (l : List Byte) : (Memory.ofBytes a l).wf :=
  Memory.wfFrom_mono (Nat.zero_le a) (Memory.wfFrom_ofBytes l a)

/-- Its bytes are the list's. -/
theorem Memory.read_ofBytes (l : List Byte) : ∀ a i : Nat, (Memory.ofBytes a l).read (a + i) = l.getD i Memory.unlisted := by
  induction l with
  | nil => intro a i; simp [Memory.ofBytes]
  | cons v rest ih =>
    intro a i
    simp only [Memory.ofBytes]
    cases i with
    | zero =>
      split
      · rename_i h; subst h; simpa using Memory.read_below (Memory.wfFrom_ofBytes rest (a + 1)) (by omega)
      · simp [Memory.read]
    | succ j =>
      have hj : a + (j + 1) = a + 1 + j := by omega
      split
      · rw [hj, ih]; simp
      · simp only [Memory.read]; rw [if_neg (by omega), hj, ih]; simp

/-- A list of at most `size - a` bytes from index `a` on lies inside the array. -/
theorem Memory.within_ofBytes (size : Nat) (l : List Byte) :
    ∀ a : Nat, a + l.length ≤ size → (Memory.ofBytes a l).within size := by
  induction l with
  | nil => intros; rfl
  | cons v rest ih =>
    intro a h
    simp only [List.length_cons] at h
    have ih' := ih (a + 1) (by omega)
    simp only [Memory.ofBytes]
    split
    · exact ih'
    · rw [Memory.within_cons]; exact ⟨by omega, ih'⟩

end Sys2Proof.Machine
end

