-- ==== Sys2Proof/Laws/State.lean ====
section
/-! SUPPORT. What each register write and each shared update of a state leaves in each field: one lemma per field per update,
true by `rfl`, so that no proof unfolds a record update. -/

namespace Sys2Proof.Machine

@[simp] theorem State.setA_cpu (v : Byte) (s : State) : (s.setA v).cpu = { s.cpu with a := v } := rfl
@[simp] theorem State.setA_nmiPending (v : Byte) (s : State) : (s.setA v).nmiPending = s.nmiPending := rfl
@[simp] theorem State.setA_nmiDelay (v : Byte) (s : State) : (s.setA v).nmiDelay = s.nmiDelay := rfl
@[simp] theorem State.setA_irqRequest (v : Byte) (s : State) : (s.setA v).irqRequest = s.irqRequest := rfl
@[simp] theorem State.setA_stallCycles (v : Byte) (s : State) : (s.setA v).stallCycles = s.stallCycles := rfl
@[simp] theorem State.setA_paused (v : Byte) (s : State) : (s.setA v).paused = s.paused := rfl
@[simp] theorem State.setA_debug (v : Byte) (s : State) : (s.setA v).debugCfg = s.debugCfg := rfl
@[simp] theorem State.setA_cycleTotal (v : Byte) (s : State) : (s.setA v).cycleTotal = s.cycleTotal := rfl
@[simp] theorem State.setA_faults (v : Byte) (s : State) : (s.setA v).faults = s.faults := rfl
@[simp] theorem State.setA_stepCycles (v : Byte) (s : State) : (s.setA v).stepCycles = s.stepCycles := rfl
@[simp] theorem State.setA_trace (v : Byte) (s : State) : (s.setA v).trace = s.trace := rfl
@[simp] theorem State.setA_readSlot (v : Byte) (s : State) : (s.setA v).readSlot = s.readSlot := rfl
@[simp] theorem State.setA_writeSlot (v : Byte) (s : State) : (s.setA v).writeSlot = s.writeSlot := rfl
@[simp] theorem State.setA_ram (v : Byte) (s : State) : (s.setA v).ram = s.ram := rfl
@[simp] theorem State.setA_prgRam (v : Byte) (s : State) : (s.setA v).prgRam = s.prgRam := rfl
@[simp] theorem State.setA_flat (v : Byte) (s : State) : (s.setA v).flat = s.flat := rfl
@[simp] theorem State.setA_ppu (v : Byte) (s : State) : (s.setA v).ppu = s.ppu := rfl
@[simp] theorem State.setA_cart (v : Byte) (s : State) : (s.setA v).cart = s.cart := rfl
@[simp] theorem State.setA_mapper (v : Byte) (s : State) : (s.setA v).mapper = s.mapper := rfl
@[simp] theorem State.setA_deviceLog (v : Byte) (s : State) : (s.setA v).deviceLog = s.deviceLog := rfl
@[simp] theorem State.setA_params (v : Byte) (s : State) : (s.setA v).params = s.params := rfl

@[simp] theorem State.setX_cpu (v : Byte) (s : State) : (s.setX v).cpu = { s.cpu with x := v } := rfl
@[simp] theorem State.setX_nmiPending (v : Byte) (s : State) : (s.setX v).nmiPending = s.nmiPending := rfl
@[simp] theorem State.setX_nmiDelay (v : Byte) (s : State) : (s.setX v).nmiDelay = s.nmiDelay := rfl
@[simp] theorem State.setX_irqRequest (v : Byte) (s : State) : (s.setX v).irqRequest = s.irqRequest := rfl
@[simp] theorem State.setX_stallCycles (v : Byte) (s : State) : (s.setX v).stallCycles = s.stallCycles := rfl
@[simp] theorem State.setX_paused (v : Byte) (s : State) : (s.setX v).paused = s.paused := rfl
@[simp] theorem State.setX_debug (v : Byte) (s : State) : (s.setX v).debugCfg = s.debugCfg := rfl
@[simp] theorem State.setX_cycleTotal (v : Byte) (s : State) : (s.setX v).cycleTotal = s.cycleTotal := rfl
@[simp] theorem State.setX_faults (v : Byte) (s : State) : (s.setX v).faults = s.faults := rfl
@[simp] theorem State.setX_stepCycles (v : Byte) (s : State) : (s.setX v).stepCycles = s.stepCycles := rfl
@[simp] theorem State.setX_trace (v : Byte) (s : State) : (s.setX v).trace = s.trace := rfl
@[simp] theorem State.setX_readSlot (v : Byte) (s : State) : (s.setX v).readSlot = s.readSlot := rfl
@[simp] theorem State.setX_writeSlot (v : Byte) (s : State) : (s.setX v).writeSlot = s.writeSlot := rfl
@[simp] theorem State.setX_ram (v : Byte) (s : State) : (s.setX v).ram = s.ram := rfl
@[simp] theorem State.setX_prgRam (v : Byte) (s : State) : (s.setX v).prgRam = s.prgRam := rfl
@[simp] theorem State.setX_flat (v : Byte) (s : State) : (s.setX v).flat = s.flat := rfl
@[simp] theorem State.setX_ppu (v : Byte) (s : State) : (s.setX v).ppu = s.ppu := rfl
@[simp] theorem State.setX_cart (v : Byte) (s : State) : (s.setX v).cart = s.cart := rfl
@[simp] theorem State.setX_mapper (v : Byte) (s : State) : (s.setX v).mapper = s.mapper := rfl
@[simp] theorem State.setX_deviceLog (v : Byte) (s : State) : (s.setX v).deviceLog = s.deviceLog := rfl
@[simp] theorem State.setX_params (v : Byte) (s : State) : (s.setX v).params = s.params := rfl

@[simp] theorem State.setY_cpu (v : Byte) (s : State) : (s.setY v).cpu = { s.cpu with y := v } := rfl
@[simp] theorem State.setY_nmiPending (v : Byte) (s : State) : (s.setY v).nmiPending = s.nmiPending := rfl
@[simp] theorem State.setY_nmiDelay (v : Byte) (s : State) : (s.setY v).nmiDelay = s.nmiDelay := rfl
@[simp] theorem State.setY_irqRequest (v : Byte) (s : State) : (s.setY v).irqRequest = s.irqRequest := rfl
@[simp] theorem State.setY_stallCycles (v : Byte) (s : State) : (s.setY v).stallCycles = s.stallCycles := rfl
@[simp] theorem State.setY_paused (v : Byte) (s : State) : (s.setY v).paused = s.paused := rfl
@[simp] theorem State.setY_debug (v : Byte) (s : State) : (s.setY v).debugCfg = s.debugCfg := rfl
@[simp] theorem State.setY_cycleTotal (v : Byte) (s : State) : (s.setY v).cycleTotal = s.cycleTotal := rfl
@[simp] theorem State.setY_faults (v : Byte) (s : State) : (s.setY v).faults = s.faults := rfl
@[simp] theorem State.setY_stepCycles (v : Byte) (s : State) : (s.setY v).stepCycles = s.stepCycles := rfl
@[simp] theorem State.setY_trace (v : Byte) (s : State) : (s.setY v).trace = s.trace := rfl
@[simp] theorem State.setY_readSlot (v : Byte) (s : State) : (s.setY v).readSlot = s.readSlot := rfl
@[simp] theorem State.setY_writeSlot (v : Byte) (s : State) : (s.setY v).writeSlot = s.writeSlot := rfl
@[simp] theorem State.setY_ram (v : Byte) (s : State) : (s.setY v).ram = s.ram := rfl
@[simp] theorem State.setY_prgRam (v : Byte) (s : State) : (s.setY v).prgRam = s.prgRam := rfl
@[simp] theorem State.setY_flat (v : Byte) (s : State) : (s.setY v).flat = s.flat := rfl
@[simp] theorem State.setY_ppu (v : Byte) (s : State) : (s.setY v).ppu = s.ppu := rfl
@[simp] theorem State.setY_cart (v : Byte) (s : State) : (s.setY v).cart = s.cart := rfl
@[simp] theorem State.setY_mapper (v : Byte) (s : State) : (s.setY v).mapper = s.mapper := rfl
@[simp] theorem State.setY_deviceLog (v : Byte) (s : State) : (s.setY v).deviceLog = s.deviceLog := rfl
@[simp] theorem State.setY_params (v : Byte) (s : State) : (s.setY v).params = s.params := rfl

@[simp] theorem State.setSp_cpu (v : Byte) (s : State) : (s.setSp v).cpu = { s.cpu with sp := v } := rfl
@[simp] theorem State.setSp_nmiPending (v : Byte) (s : State) : (s.setSp v).nmiPending = s.nmiPending := rfl
@[simp] theorem State.setSp_nmiDelay (v : Byte) (s : State) : (s.setSp v).nmiDelay = s.nmiDelay := rfl
@[simp] theorem State.setSp_irqRequest (v : Byte) (s : State) : (s.setSp v).irqRequest = s.irqRequest := rfl
@[simp] theorem State.setSp_stallCycles (v : Byte) (s : State) : (s.setSp v).stallCycles = s.stallCycles := rfl
@[simp] theorem State.setSp_paused (v : Byte) (s : State) : (s.setSp v).paused = s.paused := rfl
@[simp] theorem State.setSp_debug (v : Byte) (s : State) : (s.setSp v).debugCfg = s.debugCfg := rfl
@[simp] theorem State.setSp_cycleTotal (v : Byte) (s : State) : (s.setSp v).cycleTotal = s.cycleTotal := rfl
@[simp] theorem State.setSp_faults (v : Byte) (s : State) : (s.setSp v).faults = s.faults := rfl
@[simp] theorem State.setSp_stepCycles (v : Byte) (s : State) : (s.setSp v).stepCycles = s.stepCycles := rfl
@[simp] theorem State.setSp_trace (v : Byte) (s : State) : (s.setSp v).trace = s.trace := rfl
@[simp] theorem State.setSp_readSlot (v : Byte) (s : State) : (s.setSp v).readSlot = s.readSlot := rfl
@[simp] theorem State.setSp_writeSlot (v : Byte) (s : State) : (s.setSp v).writeSlot = s.writeSlot := rfl
@[simp] theorem State.setSp_ram (v : Byte) (s : State) : (s.setSp v).ram = s.ram := rfl
@[simp] theorem State.setSp_prgRam (v : Byte) (s : State) : (s.setSp v).prgRam = s.prgRam := rfl
@[simp] theorem State.setSp_flat (v : Byte) (s : State) : (s.setSp v).flat = s.flat := rfl
@[simp] theorem State.setSp_ppu (v : Byte) (s : State) : (s.setSp v).ppu = s.ppu := rfl
@[simp] theorem State.setSp_cart (v : Byte) (s : State) : (s.setSp v).cart = s.cart := rfl
@[simp] theorem State.setSp_mapper (v : Byte) (s : State) : (s.setSp v).mapper = s.mapper := rfl
@[simp] theorem State.setSp_deviceLog (v : Byte) (s : State) : (s.setSp v).deviceLog = s.deviceLog := rfl
@[simp] theorem State.setSp_params (v : Byte) (s : State) : (s.setSp v).params = s.params := rfl

@[simp] theorem State.setPc_cpu (v : Word) (s : State) : (s.setPc v).cpu = { s.cpu with pc := v } := rfl
@[simp] theorem State.setPc_nmiPending (v : Word) (s : State) : (s.setPc v).nmiPending = s.nmiPending := rfl
@[simp] theorem State.setPc_nmiDelay (v : Word) (s : State) : (s.setPc v).nmiDelay = s.nmiDelay := rfl
@[simp] theorem State.setPc_irqRequest (v : Word) (s : State) : (s.setPc v).irqRequest = s.irqRequest := rfl
@[simp] theorem State.setPc_stallCycles (v : Word) (s : State) : (s.setPc v).stallCycles = s.stallCycles := rfl
@[simp] theorem State.setPc_paused (v : Word) (s : State) : (s.setPc v).paused = s.paused := rfl
@[simp] theorem State.setPc_debug (v : Word) (s : State) : (s.setPc v).debugCfg = s.debugCfg := rfl
@[simp] theorem State.setPc_cycleTotal (v : Word) (s : State) : (s.setPc v).cycleTotal = s.cycleTotal := rfl
@[simp] theorem State.setPc_faults (v : Word) (s : State) : (s.setPc v).faults = s.faults := rfl
@[simp] theorem State.setPc_stepCycles (v : Word) (s : State) : (s.setPc v).stepCycles = s.stepCycles := rfl
@[simp] theorem State.setPc_trace (v : Word) (s : State) : (s.setPc v).trace = s.trace := rfl
@[simp] theorem State.setPc_readSlot (v : Word) (s : State) : (s.setPc v).readSlot = s.readSlot := rfl
@[simp] theorem State.setPc_writeSlot (v : Word) (s : State) : (s.setPc v).writeSlot = s.writeSlot := rfl
@[simp] theorem State.setPc_ram (v : Word) (s : State) : (s.setPc v).ram = s.ram := rfl
@[simp] theorem State.setPc_prgRam (v : Word) (s : State) : (s.setPc v).prgRam = s.prgRam := rfl
@[simp] theorem State.setPc_flat (v : Word) (s : State) : (s.setPc v).flat = s.flat := rfl
@[simp] theorem State.setPc_ppu (v : Word) (s : State) : (s.setPc v).ppu = s.ppu := rfl
@[simp] theorem State.setPc_cart (v : Word) (s : State) : (s.setPc v).cart = s.cart := rfl
@[simp] theorem State.setPc_mapper (v : Word) (s : State) : (s.setPc v).mapper = s.mapper := rfl
@[simp] theorem State.setPc_deviceLog (v : Word) (s : State) : (s.setPc v).deviceLog = s.deviceLog := rfl
@[simp] theorem State.setPc_params (v : Word) (s : State) : (s.setPc v).params = s.params := rfl

@[simp] theorem State.setFlags_cpu (v : Flags) (s : State) : (s.setFlags v).cpu = { s.cpu with p := v } := rfl
@[simp] theorem State.setFlags_nmiPending (v : Flags) (s : State) : (s.setFlags v).nmiPending = s.nmiPending := rfl
@[simp] theorem State.setFlags_nmiDelay (v : Flags) (s : State) : (s.setFlags v).nmiDelay = s.nmiDelay := rfl
@[simp] theorem State.setFlags_irqRequest (v : Flags) (s : State) : (s.setFlags v).irqRequest = s.irqRequest := rfl
@[simp] theorem State.setFlags_stallCycles (v : Flags) (s : State) : (s.setFlags v).stallCycles = s.stallCycles := rfl
@[simp] theorem State.setFlags_paused (v : Flags) (s : State) : (s.setFlags v).paused = s.paused := rfl
@[simp] theorem State.setFlags_debug (v : Flags) (s : State) : (s.setFlags v).debugCfg = s.debugCfg := rfl
@[simp] theorem State.setFlags_cycleTotal (v : Flags) (s : State) : (s.setFlags v).cycleTotal = s.cycleTotal := rfl
@[simp] theorem State.setFlags_faults (v : Flags) (s : State) : (s.setFlags v).faults = s.faults := rfl
@[simp] theorem State.setFlags_stepCycles (v : Flags) (s : State) : (s.setFlags v).stepCycles = s.stepCycles := rfl
@[simp] theorem State.setFlags_trace (v : Flags) (s : State) : (s.setFlags v).trace = s.trace := rfl
@[simp] theorem State.setFlags_readSlot (v : Flags) (s : State) : (s.setFlags v).readSlot = s.readSlot := rfl
@[simp] theorem State.setFlags_writeSlot (v : Flags) (s : State) : (s.setFlags v).writeSlot = s.writeSlot := rfl
@[simp] theorem State.setFlags_ram (v : Flags) (s : State) : (s.setFlags v).ram = s.ram := rfl
@[simp] theorem State.setFlags_prgRam (v : Flags) (s : State) : (s.setFlags v).prgRam = s.prgRam := rfl
@[simp] theorem State.setFlags_flat (v : Flags) (s : State) : (s.setFlags v).flat = s.flat := rfl
@[simp] theorem State.setFlags_ppu (v : Flags) (s : State) : (s.setFlags v).ppu = s.ppu := rfl
@[simp] theorem State.setFlags_cart (v : Flags) (s : State) : (s.setFlags v).cart = s.cart := rfl
@[simp] theorem State.setFlags_mapper (v : Flags) (s : State) : (s.setFlags v).mapper = s.mapper := rfl
@[simp] theorem State.setFlags_deviceLog (v : Flags) (s : State) : (s.setFlags v).deviceLog = s.deviceLog := rfl
@[simp] theorem State.setFlags_params (v : Flags) (s : State) : (s.setFlags v).params = s.params := rfl

@[simp] theorem State.setCycles_stepCycles (c : Nat) (s : State) : (s.setCycles c).stepCycles = c := rfl
@[simp] theorem State.setCycles_cpu (c : Nat) (s : State) : (s.setCycles c).cpu = s.cpu := rfl
@[simp] theorem State.setCycles_nmiPending (c : Nat) (s : State) : (s.setCycles c).nmiPending = s.nmiPending := rfl
@[simp] theorem State.setCycles_nmiDelay (c : Nat) (s : State) : (s.setCycles c).nmiDelay = s.nmiDelay := rfl
@[simp] theorem State.setCycles_irqRequest (c : Nat) (s : State) : (s.setCycles c).irqRequest = s.irqRequest := rfl
@[simp] theorem State.setCycles_stallCycles (c : Nat) (s : State) : (s.setCycles c).stallCycles = s.stallCycles := rfl
@[simp] theorem State.setCycles_paused (c : Nat) (s : State) : (s.setCycles c).paused = s.paused := rfl
@[simp] theorem State.setCycles_debug (c : Nat) (s : State) : (s.setCycles c).debugCfg = s.debugCfg := rfl
@[simp] theorem State.setCycles_cycleTotal (c : Nat) (s : State) : (s.setCycles c).cycleTotal = s.cycleTotal := rfl
@[simp] theorem State.setCycles_faults (c : Nat) (s : State) : (s.setCycles c).faults = s.faults := rfl
@[simp] theorem State.setCycles_trace (c : Nat) (s : State) : (s.setCycles c).trace = s.trace := rfl
@[simp] theorem State.setCycles_readSlot (c : Nat) (s : State) : (s.setCycles c).readSlot = s.readSlot := rfl
@[simp] theorem State.setCycles_writeSlot (c : Nat) (s : State) : (s.setCycles c).writeSlot = s.writeSlot := rfl
@[simp] theorem State.setCycles_ram (c : Nat) (s : State) : (s.setCycles c).ram = s.ram := rfl
@[simp] theorem State.setCycles_prgRam (c : Nat) (s : State) : (s.setCycles c).prgRam = s.prgRam := rfl
@[simp] theorem State.setCycles_flat (c : Nat) (s : State) : (s.setCycles c).flat = s.flat := rfl
@[simp] theorem State.setCycles_ppu (c : Nat) (s : State) : (s.setCycles c).ppu = s.ppu := rfl
@[simp] theorem State.setCycles_cart (c : Nat) (s : State) : (s.setCycles c).cart = s.cart := rfl
@[simp] theorem State.setCycles_mapper (c : Nat) (s : State) : (s.setCycles c).mapper = s.mapper := rfl
@[simp] theorem State.setCycles_deviceLog (c : Nat) (s : State) : (s.setCycles c).deviceLog = s.deviceLog := rfl
@[simp] theorem State.setCycles_params (c : Nat) (s : State) : (s.setCycles c).params = s.params := rfl

@[simp] theorem State.setAFlags_eq (r : Byte × Flags) (s : State) : s.setAFlags r = (s.setA r.1).setFlags r.2 := rfl
@[simp] theorem State.setXFlags_eq (r : Byte × Flags) (s : State) : s.setXFlags r = (s.setX r.1).setFlags r.2 := rfl
@[simp] theorem State.setYFlags_eq (r : Byte × Flags) (s : State) : s.setYFlags r = (s.setY r.1).setFlags r.2 := rfl

@[simp] theorem completeAt_eq (pc : Word) (c : Nat) (s : State) : completeAt pc c s = (s.setPc pc).setCycles c := rfl

/-- Completing an instruction (R45, R609) writes the program counter and the cycle count, from the state it is given. -/
@[simp] theorem complete_eq (op : Byte) (crossed : Bool) (s : State) :
    complete op crossed s =
      (s.setPc (s.cpu.pc + BitVec.ofNat 16 (entryOf op).length)).setCycles
        ((entryOf op).cycles + pagePenalty (entryOf op).cls crossed s.params.rmwPagePenalty) := rfl

@[simp] theorem stall_cpu (n : Nat) (s : State) : (stall n s).cpu = s.cpu := rfl
@[simp] theorem stall_nmiPending (n : Nat) (s : State) : (stall n s).nmiPending = s.nmiPending := rfl
@[simp] theorem stall_nmiDelay (n : Nat) (s : State) : (stall n s).nmiDelay = s.nmiDelay := rfl
@[simp] theorem stall_irqRequest (n : Nat) (s : State) : (stall n s).irqRequest = s.irqRequest := rfl
@[simp] theorem stall_stallCycles (n : Nat) (s : State) : (stall n s).stallCycles = s.stallCycles + n := rfl
@[simp] theorem stall_paused (n : Nat) (s : State) : (stall n s).paused = s.paused := rfl
@[simp] theorem stall_debug (n : Nat) (s : State) : (stall n s).debugCfg = s.debugCfg := rfl
@[simp] theorem stall_cycleTotal (n : Nat) (s : State) : (stall n s).cycleTotal = s.cycleTotal := rfl
@[simp] theorem stall_faults (n : Nat) (s : State) : (stall n s).faults = s.faults := rfl
@[simp] theorem stall_stepCycles (n : Nat) (s : State) : (stall n s).stepCycles = s.stepCycles := rfl
@[simp] theorem stall_trace (n : Nat) (s : State) : (stall n s).trace = s.trace := rfl
@[simp] theorem stall_readSlot (n : Nat) (s : State) : (stall n s).readSlot = s.readSlot := rfl
@[simp] theorem stall_writeSlot (n : Nat) (s : State) : (stall n s).writeSlot = s.writeSlot := rfl
@[simp] theorem stall_ram (n : Nat) (s : State) : (stall n s).ram = s.ram := rfl
@[simp] theorem stall_prgRam (n : Nat) (s : State) : (stall n s).prgRam = s.prgRam := rfl
@[simp] theorem stall_flat (n : Nat) (s : State) : (stall n s).flat = s.flat := rfl
@[simp] theorem stall_ppu (n : Nat) (s : State) : (stall n s).ppu = s.ppu := rfl
@[simp] theorem stall_cart (n : Nat) (s : State) : (stall n s).cart = s.cart := rfl
@[simp] theorem stall_mapper (n : Nat) (s : State) : (stall n s).mapper = s.mapper := rfl
@[simp] theorem stall_deviceLog (n : Nat) (s : State) : (stall n s).deviceLog = s.deviceLog := rfl
@[simp] theorem stall_params (n : Nat) (s : State) : (stall n s).params = s.params := rfl

@[simp] theorem haltIllegal_cpu (op : Byte) (s : State) : (haltIllegal op s).cpu = s.cpu := rfl
@[simp] theorem haltIllegal_nmiPending (op : Byte) (s : State) : (haltIllegal op s).nmiPending = s.nmiPending := rfl
@[simp] theorem haltIllegal_nmiDelay (op : Byte) (s : State) : (haltIllegal op s).nmiDelay = s.nmiDelay := rfl
@[simp] theorem haltIllegal_irqRequest (op : Byte) (s : State) : (haltIllegal op s).irqRequest = s.irqRequest := rfl
@[simp] theorem haltIllegal_stallCycles (op : Byte) (s : State) : (haltIllegal op s).stallCycles = s.stallCycles := rfl
@[simp] theorem haltIllegal_paused (op : Byte) (s : State) : (haltIllegal op s).paused = true := rfl
@[simp] theorem haltIllegal_debug (op : Byte) (s : State) : (haltIllegal op s).debugCfg = s.debugCfg := rfl
@[simp] theorem haltIllegal_cycleTotal (op : Byte) (s : State) : (haltIllegal op s).cycleTotal = s.cycleTotal := rfl
@[simp] theorem haltIllegal_faults (op : Byte) (s : State) : (haltIllegal op s).faults = s.faults ++ [.illegalOpcode op s.cpu.pc] := rfl
@[simp] theorem haltIllegal_stepCycles (op : Byte) (s : State) : (haltIllegal op s).stepCycles = 0 := rfl
@[simp] theorem haltIllegal_trace (op : Byte) (s : State) : (haltIllegal op s).trace = s.trace := rfl
@[simp] theorem haltIllegal_readSlot (op : Byte) (s : State) : (haltIllegal op s).readSlot = s.readSlot := rfl
@[simp] theorem haltIllegal_writeSlot (op : Byte) (s : State) : (haltIllegal op s).writeSlot = s.writeSlot := rfl
@[simp] theorem haltIllegal_ram (op : Byte) (s : State) : (haltIllegal op s).ram = s.ram := rfl
@[simp] theorem haltIllegal_prgRam (op : Byte) (s : State) : (haltIllegal op s).prgRam = s.prgRam := rfl
@[simp] theorem haltIllegal_flat (op : Byte) (s : State) : (haltIllegal op s).flat = s.flat := rfl
@[simp] theorem haltIllegal_ppu (op : Byte) (s : State) : (haltIllegal op s).ppu = s.ppu := rfl
@[simp] theorem haltIllegal_cart (op : Byte) (s : State) : (haltIllegal op s).cart = s.cart := rfl
@[simp] theorem haltIllegal_mapper (op : Byte) (s : State) : (haltIllegal op s).mapper = s.mapper := rfl
@[simp] theorem haltIllegal_deviceLog (op : Byte) (s : State) : (haltIllegal op s).deviceLog = s.deviceLog := rfl
@[simp] theorem haltIllegal_params (op : Byte) (s : State) : (haltIllegal op s).params = s.params := rfl

@[simp] theorem beginStep_cpu  (s : State) : (beginStep s).cpu = s.cpu := rfl
@[simp] theorem beginStep_nmiPending  (s : State) : (beginStep s).nmiPending = s.nmiPending := rfl
@[simp] theorem beginStep_nmiDelay  (s : State) : (beginStep s).nmiDelay = s.nmiDelay := rfl
@[simp] theorem beginStep_irqRequest  (s : State) : (beginStep s).irqRequest = s.irqRequest := rfl
@[simp] theorem beginStep_stallCycles  (s : State) : (beginStep s).stallCycles = s.stallCycles := rfl
@[simp] theorem beginStep_paused  (s : State) : (beginStep s).paused = s.paused := rfl
@[simp] theorem beginStep_debug  (s : State) : (beginStep s).debugCfg = s.debugCfg := rfl
@[simp] theorem beginStep_cycleTotal  (s : State) : (beginStep s).cycleTotal = s.cycleTotal := rfl
@[simp] theorem beginStep_faults  (s : State) : (beginStep s).faults = s.faults := rfl
@[simp] theorem beginStep_stepCycles  (s : State) : (beginStep s).stepCycles = 0 := rfl
@[simp] theorem beginStep_trace  (s : State) : (beginStep s).trace = [] := rfl
@[simp] theorem beginStep_readSlot  (s : State) : (beginStep s).readSlot = s.readSlot := rfl
@[simp] theorem beginStep_writeSlot  (s : State) : (beginStep s).writeSlot = s.writeSlot := rfl
@[simp] theorem beginStep_ram  (s : State) : (beginStep s).ram = s.ram := rfl
@[simp] theorem beginStep_prgRam  (s : State) : (beginStep s).prgRam = s.prgRam := rfl
@[simp] theorem beginStep_flat  (s : State) : (beginStep s).flat = s.flat := rfl
@[simp] theorem beginStep_ppu  (s : State) : (beginStep s).ppu = s.ppu := rfl
@[simp] theorem beginStep_cart  (s : State) : (beginStep s).cart = s.cart := rfl
@[simp] theorem beginStep_mapper  (s : State) : (beginStep s).mapper = s.mapper := rfl
@[simp] theorem beginStep_deviceLog  (s : State) : (beginStep s).deviceLog = s.deviceLog := rfl
@[simp] theorem beginStep_params  (s : State) : (beginStep s).params = s.params := rfl

@[simp] theorem consumeStall_cpu  (s : State) : (consumeStall s).cpu = s.cpu := rfl
@[simp] theorem consumeStall_nmiPending  (s : State) : (consumeStall s).nmiPending = s.nmiPending := rfl
@[simp] theorem consumeStall_nmiDelay  (s : State) : (consumeStall s).nmiDelay = s.nmiDelay := rfl
@[simp] theorem consumeStall_irqRequest  (s : State) : (consumeStall s).irqRequest = s.irqRequest := rfl
@[simp] theorem consumeStall_stallCycles  (s : State) : (consumeStall s).stallCycles = 0 := rfl
@[simp] theorem consumeStall_paused  (s : State) : (consumeStall s).paused = s.paused := rfl
@[simp] theorem consumeStall_debug  (s : State) : (consumeStall s).debugCfg = s.debugCfg := rfl
@[simp] theorem consumeStall_cycleTotal  (s : State) : (consumeStall s).cycleTotal = s.cycleTotal := rfl
@[simp] theorem consumeStall_faults  (s : State) : (consumeStall s).faults = s.faults := rfl
@[simp] theorem consumeStall_stepCycles  (s : State) : (consumeStall s).stepCycles = s.stallCycles := rfl
@[simp] theorem consumeStall_trace  (s : State) : (consumeStall s).trace = s.trace := rfl
@[simp] theorem consumeStall_readSlot  (s : State) : (consumeStall s).readSlot = s.readSlot := rfl
@[simp] theorem consumeStall_writeSlot  (s : State) : (consumeStall s).writeSlot = s.writeSlot := rfl
@[simp] theorem consumeStall_ram  (s : State) : (consumeStall s).ram = s.ram := rfl
@[simp] theorem consumeStall_prgRam  (s : State) : (consumeStall s).prgRam = s.prgRam := rfl
@[simp] theorem consumeStall_flat  (s : State) : (consumeStall s).flat = s.flat := rfl
@[simp] theorem consumeStall_ppu  (s : State) : (consumeStall s).ppu = s.ppu := rfl
@[simp] theorem consumeStall_cart  (s : State) : (consumeStall s).cart = s.cart := rfl
@[simp] theorem consumeStall_mapper  (s : State) : (consumeStall s).mapper = s.mapper := rfl
@[simp] theorem consumeStall_deviceLog  (s : State) : (consumeStall s).deviceLog = s.deviceLog := rfl
@[simp] theorem consumeStall_params  (s : State) : (consumeStall s).params = s.params := rfl

/-- An NMI request changes the latch only (R612). -/
theorem requestNmi_eq (s : State) :
    requestNmi s = { s with nmiPending := true, nmiDelay := if s.nmiPending then s.nmiDelay else nmiLatchDelay } := by
  unfold requestNmi
  split
  · cases s; simp_all
  · simp

end Sys2Proof.Machine
end

