-- ==== Sys2Proof/Laws/Bus.lean ====
section
/-! SUPPORT. Everything a bus access can do, said once: a read changes at most the PPU and the device log; a write leaves the
CPU, the pause and debug state, the bookkeeping, the cartridge and the parameters alone; the request mask and the slots
change only when a mapper of the contract is written to; both keep the invariant. -/

namespace Sys2Proof.Machine

/-- `t` differs from `s` at most in the PPU, the device log and the trace: all that reads can change. -/
def ReadsOnly (s t : State) : Prop := ∃ p l tr, t = { s with ppu := p, deviceLog := l, trace := tr }

theorem ReadsOnly.refl (s : State) : ReadsOnly s s := ⟨s.ppu, s.deviceLog, s.trace, rfl⟩

theorem ReadsOnly.trans {s t u : State} : ReadsOnly s t → ReadsOnly t u → ReadsOnly s u := by
  rintro ⟨_, _, _, rfl⟩ ⟨p, l, tr, rfl⟩; exact ⟨p, l, tr, rfl⟩

theorem busRead_readsOnly (a : Word) (s : State) : ReadsOnly s (busRead a s).2 := by
  unfold busRead
  split
  · exact .refl s
  · exact .refl s
  · unfold ppuRead; split <;> exact ⟨_, _, s.trace, rfl⟩
  · exact ⟨s.ppu, _, s.trace, rfl⟩
  · exact .refl s
  · exact .refl s
  · exact ⟨s.ppu, _, s.trace, rfl⟩
  · exact .refl s

/-- A read through a plain slot changes nothing at all. -/
theorem busRead_plain (a : Word) (s : State) (h : (s.readSlot[blockOf a]).isPlain = true) : (busRead a s).2 = s := by
  unfold busRead
  split <;> simp_all [Handler.isPlain]

/-- A read through a plain slot depends only on the slot, the memories, the cartridge and the mapper. -/
theorem busRead_congr {s t : State} (a : Word) (h : (s.readSlot[blockOf a]).isPlain = true)
    (hs : t.readSlot = s.readSlot) (hr : t.ram = s.ram) (hp : t.prgRam = s.prgRam) (hf : t.flat = s.flat)
    (hc : t.cart = s.cart) (hm : t.mapper = s.mapper) : (busRead a t).1 = (busRead a s).1 := by
  unfold busRead
  rw [hs]
  split <;> simp_all [Handler.isPlain]

theorem ReadsOnly.cpu {s t : State} (h : ReadsOnly s t) : t.cpu = s.cpu := by obtain ⟨_, _, _, rfl⟩ := h; rfl
theorem ReadsOnly.nmiPending {s t : State} (h : ReadsOnly s t) : t.nmiPending = s.nmiPending := by obtain ⟨_, _, _, rfl⟩ := h; rfl
theorem ReadsOnly.nmiDelay {s t : State} (h : ReadsOnly s t) : t.nmiDelay = s.nmiDelay := by obtain ⟨_, _, _, rfl⟩ := h; rfl
theorem ReadsOnly.irqRequest {s t : State} (h : ReadsOnly s t) : t.irqRequest = s.irqRequest := by obtain ⟨_, _, _, rfl⟩ := h; rfl
theorem ReadsOnly.stallCycles {s t : State} (h : ReadsOnly s t) : t.stallCycles = s.stallCycles := by obtain ⟨_, _, _, rfl⟩ := h; rfl
theorem ReadsOnly.paused {s t : State} (h : ReadsOnly s t) : t.paused = s.paused := by obtain ⟨_, _, _, rfl⟩ := h; rfl
theorem ReadsOnly.debugCfg {s t : State} (h : ReadsOnly s t) : t.debugCfg = s.debugCfg := by obtain ⟨_, _, _, rfl⟩ := h; rfl
theorem ReadsOnly.cycleTotal {s t : State} (h : ReadsOnly s t) : t.cycleTotal = s.cycleTotal := by obtain ⟨_, _, _, rfl⟩ := h; rfl
theorem ReadsOnly.faults {s t : State} (h : ReadsOnly s t) : t.faults = s.faults := by obtain ⟨_, _, _, rfl⟩ := h; rfl
theorem ReadsOnly.stepCycles {s t : State} (h : ReadsOnly s t) : t.stepCycles = s.stepCycles := by obtain ⟨_, _, _, rfl⟩ := h; rfl
theorem ReadsOnly.readSlot {s t : State} (h : ReadsOnly s t) : t.readSlot = s.readSlot := by obtain ⟨_, _, _, rfl⟩ := h; rfl
theorem ReadsOnly.writeSlot {s t : State} (h : ReadsOnly s t) : t.writeSlot = s.writeSlot := by obtain ⟨_, _, _, rfl⟩ := h; rfl
theorem ReadsOnly.ram {s t : State} (h : ReadsOnly s t) : t.ram = s.ram := by obtain ⟨_, _, _, rfl⟩ := h; rfl
theorem ReadsOnly.prgRam {s t : State} (h : ReadsOnly s t) : t.prgRam = s.prgRam := by obtain ⟨_, _, _, rfl⟩ := h; rfl
theorem ReadsOnly.flat {s t : State} (h : ReadsOnly s t) : t.flat = s.flat := by obtain ⟨_, _, _, rfl⟩ := h; rfl
theorem ReadsOnly.cart {s t : State} (h : ReadsOnly s t) : t.cart = s.cart := by obtain ⟨_, _, _, rfl⟩ := h; rfl
theorem ReadsOnly.mapper {s t : State} (h : ReadsOnly s t) : t.mapper = s.mapper := by obtain ⟨_, _, _, rfl⟩ := h; rfl
theorem ReadsOnly.params {s t : State} (h : ReadsOnly s t) : t.params = s.params := by obtain ⟨_, _, _, rfl⟩ := h; rfl

@[simp] theorem busRead_cpu (a : Word) (s : State) : (busRead a s).2.cpu = s.cpu := (busRead_readsOnly a s).cpu
@[simp] theorem busRead_nmiPending (a : Word) (s : State) : (busRead a s).2.nmiPending = s.nmiPending := (busRead_readsOnly a s).nmiPending
@[simp] theorem busRead_nmiDelay (a : Word) (s : State) : (busRead a s).2.nmiDelay = s.nmiDelay := (busRead_readsOnly a s).nmiDelay
@[simp] theorem busRead_irqRequest (a : Word) (s : State) : (busRead a s).2.irqRequest = s.irqRequest := (busRead_readsOnly a s).irqRequest
@[simp] theorem busRead_stallCycles (a : Word) (s : State) : (busRead a s).2.stallCycles = s.stallCycles := (busRead_readsOnly a s).stallCycles
@[simp] theorem busRead_paused (a : Word) (s : State) : (busRead a s).2.paused = s.paused := (busRead_readsOnly a s).paused
@[simp] theorem busRead_debug (a : Word) (s : State) : (busRead a s).2.debugCfg = s.debugCfg := (busRead_readsOnly a s).debugCfg
@[simp] theorem busRead_cycleTotal (a : Word) (s : State) : (busRead a s).2.cycleTotal = s.cycleTotal := (busRead_readsOnly a s).cycleTotal
@[simp] theorem busRead_faults (a : Word) (s : State) : (busRead a s).2.faults = s.faults := (busRead_readsOnly a s).faults
@[simp] theorem busRead_stepCycles (a : Word) (s : State) : (busRead a s).2.stepCycles = s.stepCycles := (busRead_readsOnly a s).stepCycles
@[simp] theorem busRead_trace (a : Word) (s : State) : (busRead a s).2.trace = s.trace := by
  unfold busRead; split <;> first | rfl | (unfold ppuRead; split <;> rfl)
@[simp] theorem busRead_readSlot (a : Word) (s : State) : (busRead a s).2.readSlot = s.readSlot := (busRead_readsOnly a s).readSlot
@[simp] theorem busRead_writeSlot (a : Word) (s : State) : (busRead a s).2.writeSlot = s.writeSlot := (busRead_readsOnly a s).writeSlot
@[simp] theorem busRead_ram (a : Word) (s : State) : (busRead a s).2.ram = s.ram := (busRead_readsOnly a s).ram
@[simp] theorem busRead_prgRam (a : Word) (s : State) : (busRead a s).2.prgRam = s.prgRam := (busRead_readsOnly a s).prgRam
@[simp] theorem busRead_flat (a : Word) (s : State) : (busRead a s).2.flat = s.flat := (busRead_readsOnly a s).flat
@[simp] theorem busRead_cart (a : Word) (s : State) : (busRead a s).2.cart = s.cart := (busRead_readsOnly a s).cart
@[simp] theorem busRead_mapper (a : Word) (s : State) : (busRead a s).2.mapper = s.mapper := (busRead_readsOnly a s).mapper
@[simp] theorem busRead_params (a : Word) (s : State) : (busRead a s).2.params = s.params := (busRead_readsOnly a s).params

/-- What a write leaves alone, as one equation. -/
def WritesOnly (s t : State) : Prop :=
  ∃ np nd iq st ra pr fl pp ma dl rs ws,
    t = { s with nmiPending := np, nmiDelay := nd, irqRequest := iq, stallCycles := st, ram := ra, prgRam := pr,
                 flat := fl, ppu := pp, mapper := ma, deviceLog := dl, readSlot := rs, writeSlot := ws }

theorem WritesOnly.cpu {s t : State} (h : WritesOnly s t) : t.cpu = s.cpu := by obtain ⟨_, _, _, _, _, _, _, _, _, _, _, _, rfl⟩ := h; rfl
theorem WritesOnly.paused {s t : State} (h : WritesOnly s t) : t.paused = s.paused := by obtain ⟨_, _, _, _, _, _, _, _, _, _, _, _, rfl⟩ := h; rfl
theorem WritesOnly.debugCfg {s t : State} (h : WritesOnly s t) : t.debugCfg = s.debugCfg := by obtain ⟨_, _, _, _, _, _, _, _, _, _, _, _, rfl⟩ := h; rfl
theorem WritesOnly.cycleTotal {s t : State} (h : WritesOnly s t) : t.cycleTotal = s.cycleTotal := by obtain ⟨_, _, _, _, _, _, _, _, _, _, _, _, rfl⟩ := h; rfl
theorem WritesOnly.faults {s t : State} (h : WritesOnly s t) : t.faults = s.faults := by obtain ⟨_, _, _, _, _, _, _, _, _, _, _, _, rfl⟩ := h; rfl
theorem WritesOnly.stepCycles {s t : State} (h : WritesOnly s t) : t.stepCycles = s.stepCycles := by obtain ⟨_, _, _, _, _, _, _, _, _, _, _, _, rfl⟩ := h; rfl
theorem WritesOnly.trace {s t : State} (h : WritesOnly s t) : t.trace = s.trace := by obtain ⟨_, _, _, _, _, _, _, _, _, _, _, _, rfl⟩ := h; rfl
theorem WritesOnly.cart {s t : State} (h : WritesOnly s t) : t.cart = s.cart := by obtain ⟨_, _, _, _, _, _, _, _, _, _, _, _, rfl⟩ := h; rfl
theorem WritesOnly.params {s t : State} (h : WritesOnly s t) : t.params = s.params := by obtain ⟨_, _, _, _, _, _, _, _, _, _, _, _, rfl⟩ := h; rfl

theorem WritesOnly.refl (s : State) : WritesOnly s s := ⟨_, _, _, _, _, _, _, _, _, _, _, _, rfl⟩

theorem WritesOnly.trans {s t u : State} : WritesOnly s t → WritesOnly t u → WritesOnly s u := by
  rintro ⟨_, _, _, _, _, _, _, _, _, _, _, _, rfl⟩ ⟨_, _, _, _, _, _, _, _, _, _, _, _, rfl⟩; exact ⟨_, _, _, _, _, _, _, _, _, _, _, _, rfl⟩

/-- What a mapper can do from one of its inputs: it changes the request mask, the PPU, its own state and the slots only
(R641, R643). -/
def MapperOnly (s t : State) : Prop :=
  ∃ iq pp ma rs ws, t = { s with irqRequest := iq, ppu := pp, mapper := ma, readSlot := rs, writeSlot := ws }

theorem MapperOnly.refl (s : State) : MapperOnly s s := ⟨_, _, _, _, _, rfl⟩

theorem MapperOnly.trans {s t u : State} : MapperOnly s t → MapperOnly t u → MapperOnly s u := by
  rintro ⟨_, _, _, _, _, rfl⟩ ⟨_, _, _, _, _, rfl⟩; exact ⟨_, _, _, _, _, rfl⟩

theorem MapperOnly.writesOnly {s t : State} : MapperOnly s t → WritesOnly s t := by
  rintro ⟨_, _, _, _, _, rfl⟩; exact ⟨_, _, _, _, _, _, _, _, _, _, _, _, rfl⟩

/-- An installation changes the slots only (R104). -/
theorem applyInstall_eq (i : HandlerInstall) (s : State) :
    ∃ rs ws, applyInstall s i = { s with readSlot := rs, writeSlot := ws } := by
  cases i <;> exact ⟨_, _, rfl⟩

theorem mapperCall_only (s : State) (c : MapperCall) : MapperOnly s (mapperCall s c) := by
  cases c
  case install i =>
    obtain ⟨_, _, h⟩ := applyInstall_eq i { s with mapper := s.mapper.addInstall i }
    exact ⟨_, _, _, _, _, h⟩
  all_goals exact ⟨_, _, _, _, _, rfl⟩

theorem mapperCalls_only (l : List MapperCall) : ∀ s : State, MapperOnly s (l.foldl mapperCall s) := by
  induction l with
  | nil => exact MapperOnly.refl
  | cons c l ih => exact fun s => (mapperCall_only s c).trans (ih _)

/-- An input of a mapper does only what its calls do. -/
theorem mapperInput_only (e : MapperInput) (s : State) : MapperOnly s (mapperInput e s) := by
  unfold mapperInput
  split
  · exact .refl s
  · exact .refl s
  · rename_i windows installs inputs _
    have h : MapperOnly s { s with mapper := .contract windows installs (inputs ++ [e]) } := ⟨_, _, _, _, _, rfl⟩
    exact h.trans (mapperCalls_only _ _)

theorem mapperWrite_only (a : Word) (d : Byte) (s : State) : MapperOnly s (mapperWrite a d s) := by
  unfold mapperWrite
  split
  · exact .refl s
  · exact ⟨_, _, _, _, _, rfl⟩
  · exact mapperInput_only _ s

theorem requestNmi_writesOnly (s : State) : WritesOnly s (requestNmi s) := by
  rw [requestNmi_eq]; exact ⟨_, _, _, _, _, _, _, _, _, _, _, _, rfl⟩

theorem ppuWrite_writesOnly (reg : PpuReg) (d : Byte) (s : State) : WritesOnly s (ppuWrite reg d s) := by
  unfold ppuWrite
  split
  · split
    · rw [requestNmi_eq]; exact ⟨_, _, _, _, _, _, _, _, _, _, _, _, rfl⟩
    · exact ⟨_, _, _, _, _, _, _, _, _, _, _, _, rfl⟩
  all_goals exact ⟨_, _, _, _, _, _, _, _, _, _, _, _, rfl⟩

/-- The OAM copy changes the PPU and the device log only (R640). -/
theorem oamDmaByte_eq (d : Byte) (s : State) (i : Nat) :
    ∃ p l, oamDmaByte d s i = { s with ppu := p, deviceLog := l } := by
  obtain ⟨p, l, tr, h⟩ := busRead_readsOnly (joinBytes d (BitVec.ofNat 8 i)) s
  have ht : tr = s.trace := by have := busRead_trace (joinBytes d (BitVec.ofNat 8 i)) s; rwa [h] at this
  subst ht
  exact ⟨_, l, by unfold oamDmaByte; simp only [h]; rfl⟩

theorem oamDma_copy_eq (d : Byte) (l : List Nat) : ∀ s : State,
    ∃ p dl, l.foldl (oamDmaByte d) s = { s with ppu := p, deviceLog := dl } := by
  induction l with
  | nil => intro s; exact ⟨s.ppu, s.deviceLog, rfl⟩
  | cons i rest ih =>
    intro s
    obtain ⟨p, dl, h⟩ := oamDmaByte_eq d s i
    obtain ⟨p', dl', h'⟩ := ih (oamDmaByte d s i)
    exact ⟨p', dl', by rw [List.foldl_cons, h', h]⟩

theorem busWrite_writesOnly (a : Word) (v : Byte) (s : State) : WritesOnly s (busWrite a v s) := by
  unfold busWrite
  split
  · exact .refl s
  · exact ⟨_, _, _, _, _, _, _, _, _, _, _, _, rfl⟩
  · exact ppuWrite_writesOnly _ _ s
  · split
    · unfold oamDma stall
      obtain ⟨p, dl, h⟩ := oamDma_copy_eq v (List.range 256) s
      rw [h]; exact ⟨_, _, _, _, _, _, _, _, _, _, _, _, rfl⟩
    · exact ⟨_, _, _, _, _, _, _, _, _, _, _, _, rfl⟩
  · exact ⟨_, _, _, _, _, _, _, _, _, _, _, _, rfl⟩
  · exact (mapperWrite_only a v s).writesOnly
  · have h : WritesOnly s (deviceWrite a v s) := ⟨_, _, _, _, _, _, _, _, _, _, _, _, rfl⟩
    exact h.trans (mapperInput_only _ _).writesOnly
  · exact ⟨_, _, _, _, _, _, _, _, _, _, _, _, rfl⟩

@[simp] theorem busWrite_cpu (a : Word) (v : Byte) (s : State) : (busWrite a v s).cpu = s.cpu := (busWrite_writesOnly a v s).cpu
@[simp] theorem busWrite_paused (a : Word) (v : Byte) (s : State) : (busWrite a v s).paused = s.paused := (busWrite_writesOnly a v s).paused
@[simp] theorem busWrite_debug (a : Word) (v : Byte) (s : State) : (busWrite a v s).debugCfg = s.debugCfg := (busWrite_writesOnly a v s).debugCfg
@[simp] theorem busWrite_cycleTotal (a : Word) (v : Byte) (s : State) : (busWrite a v s).cycleTotal = s.cycleTotal := (busWrite_writesOnly a v s).cycleTotal
@[simp] theorem busWrite_faults (a : Word) (v : Byte) (s : State) : (busWrite a v s).faults = s.faults := (busWrite_writesOnly a v s).faults
@[simp] theorem busWrite_stepCycles (a : Word) (v : Byte) (s : State) : (busWrite a v s).stepCycles = s.stepCycles := (busWrite_writesOnly a v s).stepCycles
@[simp] theorem busWrite_trace (a : Word) (v : Byte) (s : State) : (busWrite a v s).trace = s.trace := (busWrite_writesOnly a v s).trace
@[simp] theorem busWrite_cart (a : Word) (v : Byte) (s : State) : (busWrite a v s).cart = s.cart := (busWrite_writesOnly a v s).cart
@[simp] theorem busWrite_params (a : Word) (v : Byte) (s : State) : (busWrite a v s).params = s.params := (busWrite_writesOnly a v s).params

/-! ## Memory after a write -/

/-- A bus read returns the byte last written when both addresses lead to the same stored byte (R115, R631, D23). -/
theorem busRead_busWrite_same (a b : Word) (v : Byte) (s : State) (h : s.Inv) (hw : writePlace a s ≠ none)
    (hp : readPlace b s = writePlace a s) : (busRead b (busWrite a v s)).1 = v := by
  obtain ⟨h1, h2, h3, -⟩ := h
  unfold readPlace writePlace at hp
  unfold writePlace at hw
  unfold busWrite
  split at hp <;> rename_i hr <;> split at hp <;> rename_i hq <;> simp_all [busRead]
  · exact Memory.read_write_same _ _ _ (Memory.ok_wf h1)
  · exact Memory.read_write_same _ _ _ (Memory.ok_wf h2)
  · exact Memory.read_write_same _ _ _ (Memory.ok_wf h3)

/-- A bus read of any other stored byte returns what it returned before the write, when no mapper hears of the write, or the
mapper makes no calls and either the write misses its register or the read is not of its PRG-ROM. -/
theorem busRead_busWrite_other (a b : Word) (v : Byte) (s : State) (hb : (s.readSlot[blockOf b]).isPlain = true)
    (hp : readPlace b s = none ∨ readPlace b s ≠ writePlace a s)
    (hm : (s.mapper.callsBack = false ∧
        (s.writeSlot[blockOf a] ≠ .cartridge ∨ s.readSlot[blockOf b] ≠ .cartridge)) ∨
      (s.writeSlot[blockOf a] ≠ .cartridge ∧ s.writeSlot[blockOf a] ≠ .mapperDevice)) :
    (busRead b (busWrite a v s)).1 = (busRead b s).1 := by
  unfold busWrite
  split <;> rename_i hq
  · rfl
  · unfold readPlace writePlace at hp; rw [hq] at hp
    unfold busRead
    split <;> rename_i hr <;> rw [hr] at hp <;> simp_all [Handler.isPlain]
    exact Memory.read_write_other _ _ _ _ hp
  · unfold ppuWrite
    split
    · split
      · rw [requestNmi_eq]; exact busRead_congr b hb rfl rfl rfl rfl rfl rfl
      · exact busRead_congr b hb rfl rfl rfl rfl rfl rfl
    all_goals exact busRead_congr b hb rfl rfl rfl rfl rfl rfl
  · split
    · unfold oamDma stall
      obtain ⟨p, dl, h⟩ := oamDma_copy_eq v (List.range 256) s
      rw [h]; exact busRead_congr b hb rfl rfl rfl rfl rfl rfl
    · exact busRead_congr b hb rfl rfl rfl rfl rfl rfl
  · unfold readPlace writePlace at hp; rw [hq] at hp
    unfold busRead
    split <;> rename_i hr <;> rw [hr] at hp <;> simp_all [Handler.isPlain]
    exact Memory.read_write_other _ _ _ _ hp
  · obtain ⟨hc, hr⟩ : s.mapper.callsBack = false ∧ s.readSlot[blockOf b] ≠ .cartridge := by simp_all
    obtain ⟨m, e⟩ : ∃ m, mapperWrite a v s = { s with mapper := m } := by
      unfold mapperWrite
      split
      · exact ⟨_, rfl⟩
      · exact ⟨_, rfl⟩
      · rename_i h; rw [h] at hc; cases hc
    rw [e]
    unfold busRead
    split <;> first | rfl | (rename_i h; exact absurd h hr) | simp_all [Handler.isPlain]
  · have hc : s.mapper.callsBack = false := by simp_all
    have e : mapperInput (.write a v) (deviceWrite a v s) = deviceWrite a v s := by
      unfold mapperInput
      split
      · rfl
      · rfl
      · rename_i h; rw [show (deviceWrite a v s).mapper = s.mapper from rfl] at h; rw [h] at hc; cases hc
    rw [e]; exact busRead_congr b hb rfl rfl rfl rfl rfl rfl
  · unfold readPlace writePlace at hp; rw [hq] at hp
    unfold busRead
    split <;> rename_i hr <;> rw [hr] at hp <;> simp_all [Handler.isPlain]
    exact Memory.read_write_other _ _ _ _ hp

/-! ## The invariant -/

/-- The PPU's part of the invariant. -/
def Ppu.ok (p : Ppu) : Prop := p.oam.ok 256 = true ∧ p.vram.ok 16384 = true ∧ p.scanline ≤ 261

theorem Ppu.ok_log {was p : Ppu} {c : PpuChange} (h : p.ok) : (Ppu.log was c p).ok := by
  unfold Ppu.log; split <;> exact h

theorem Ppu.ok_setScroll {p : Ppu} {t : BitVec 15} {x : BitVec 3} (h : p.ok) : (Ppu.setScroll t x p).ok := by
  exact Ppu.ok_log (p := { p with current := { p.current with t := t, x := x } }) h

theorem paletteIndex_lt (a : BitVec 14) : paletteIndex a < 32 := by
  unfold paletteIndex
  simp only
  split <;> simp only [BitVec.toNat_and, BitVec.toNat_ofNat] <;>
    exact Nat.lt_of_le_of_lt (Nat.and_le_right) (by decide)

theorem nametableIndex_lt (m : Byte) (a : BitVec 14) : nametableIndex m a < 0x3000 := by
  unfold nametableIndex
  have h1 : ((m >>> (2 * (a.extractLsb' 10 2).toNat)) &&& 3#8).toNat ≤ 3 := by
    rw [BitVec.toNat_and]; exact Nat.and_le_right
  have h2 := (a.extractLsb' 0 10).isLt
  simp only at *
  omega

theorem videoTarget_lt (chrRom : Bool) (h : HStatus) (a : BitVec 14) (i : Nat) (e : videoTarget chrRom h a = .video i) :
    i < 16384 := by
  have hp := paletteIndex_lt a
  have hn := nametableIndex_lt h.mirror a
  unfold videoTarget at e
  split at e
  · split at e
    · cases e
    · cases e; omega
  · split at e <;> cases e <;> omega

theorem Ppu.ok_vramWrite {c : Cartridge} {a : BitVec 14} {d : Byte} {p : Ppu} (h : p.ok) : (vramWrite c a d p).ok := by
  unfold vramWrite
  split
  · exact h
  · rename_i i e
    exact ⟨h.1, Memory.ok_write _ _ _ _ h.2.1 (videoTarget_lt _ _ _ _ e), h.2.2⟩

theorem Ppu.ok_advance {p : Ppu} (h : p.ok) : p.advance.ok := h

theorem Ppu.ok_readData {c : Cartridge} {p : Ppu} (h : p.ok) : (p.readData c).2.ok := by
  unfold Ppu.readData; simp only; split <;> exact h

theorem State.inv_ppu {s : State} (h : s.Inv) : s.ppu.ok := ⟨h.2.2.2.1, h.2.2.2.2.1, h.2.2.2.2.2.2.2.2.2.1⟩

/-- Replacing the PPU by one that is in order keeps the invariant; so do the device log and the trace. -/
theorem State.inv_withPpu {s : State} (h : s.Inv) {p : Ppu} (hp : p.ok) (l : List DeviceAccess) (tr : List BusAccess) :
    State.Inv { s with ppu := p, deviceLog := l, trace := tr } :=
  ⟨h.1, h.2.1, h.2.2.1, hp.1, hp.2.1, h.2.2.2.2.2.1, h.2.2.2.2.2.2.1, h.2.2.2.2.2.2.2.1, h.2.2.2.2.2.2.2.2.1, hp.2.2,
    h.2.2.2.2.2.2.2.2.2.2⟩

theorem busRead_inv (a : Word) (s : State) (h : s.Inv) : (busRead a s).2.Inv := by
  unfold busRead
  split <;> try exact h
  unfold ppuRead
  split <;> try exact h
  exact State.inv_withPpu h (Ppu.ok_readData (State.inv_ppu h)) s.deviceLog s.trace

theorem requestNmi_inv (s : State) (h : s.Inv) : (requestNmi s).Inv := by
  unfold requestNmi
  split
  · exact h
  · exact ⟨h.1, h.2.1, h.2.2.1, h.2.2.2.1, h.2.2.2.2.1, h.2.2.2.2.2.1, h.2.2.2.2.2.2.1, h.2.2.2.2.2.2.2.1,
      h.2.2.2.2.2.2.2.2.1, h.2.2.2.2.2.2.2.2.2.1, by simp, by simp [nmiLatchDelay]⟩

theorem Ppu.ok_writeCtrl {d : Byte} {p : Ppu} (h : p.ok) : (p.writeCtrl d).ok := by
  unfold Ppu.writeCtrl; exact Ppu.ok_log (p := { p with current := _ }) h

theorem Ppu.ok_writeMask {d : Byte} {p : Ppu} (h : p.ok) : (p.writeMask d).ok := by
  unfold Ppu.writeMask; exact Ppu.ok_log (p := { p with current := _ }) h

theorem Ppu.ok_writeOamData {d : Byte} {p : Ppu} (h : p.ok) : (p.writeOamData d).ok :=
  ⟨Memory.ok_write _ _ _ _ h.1 p.oamAddr.isLt, h.2.1, h.2.2⟩

theorem Ppu.ok_writeScroll {d : Byte} {p : Ppu} (h : p.ok) : (p.writeScroll d).ok := by
  unfold Ppu.writeScroll; simp only; split <;> exact Ppu.ok_setScroll h

theorem Ppu.ok_writeAddr {d : Byte} {p : Ppu} (h : p.ok) : (p.writeAddr d).ok := by
  unfold Ppu.writeAddr; simp only; split <;> exact Ppu.ok_setScroll h

theorem Ppu.ok_writeData {c : Cartridge} {d : Byte} {p : Ppu} (h : p.ok) : (p.writeData c d).ok :=
  Ppu.ok_advance (Ppu.ok_vramWrite h)

theorem ppuWrite_inv (reg : PpuReg) (d : Byte) (s : State) (h : s.Inv) : (ppuWrite reg d s).Inv := by
  have hp := State.inv_ppu h
  unfold ppuWrite
  split
  · have h' : State.Inv { s with ppu := s.ppu.writeCtrl d } :=
      State.inv_withPpu h (Ppu.ok_writeCtrl hp) s.deviceLog s.trace
    simp only
    split
    · exact requestNmi_inv _ h'
    · exact h'
  · exact State.inv_withPpu h (Ppu.ok_writeMask hp) s.deviceLog s.trace
  · exact h
  · exact h
  · exact State.inv_withPpu h (Ppu.ok_writeOamData hp) s.deviceLog s.trace
  · exact State.inv_withPpu h (Ppu.ok_writeScroll hp) s.deviceLog s.trace
  · exact State.inv_withPpu h (Ppu.ok_writeAddr hp) s.deviceLog s.trace
  · exact State.inv_withPpu h (Ppu.ok_writeData hp) s.deviceLog s.trace

theorem oamDmaByte_inv (d : Byte) (s : State) (i : Nat) (h : s.Inv) : (oamDmaByte d s i).Inv := by
  have h' := busRead_inv (joinBytes d (BitVec.ofNat 8 i)) s h
  have hp := State.inv_ppu h'
  unfold oamDmaByte
  refine State.inv_withPpu (s := (busRead (joinBytes d (BitVec.ofNat 8 i)) s).2) h' ?_ _ _
  exact ⟨Memory.ok_write _ _ _ _ hp.1 (BitVec.isLt _), hp.2⟩

theorem oamDma_inv (d : Byte) (s : State) (h : s.Inv) : (oamDma d s).Inv := by
  have key : ∀ (l : List Nat) (s : State), s.Inv → (l.foldl (oamDmaByte d) s).Inv := by
    intro l
    induction l with
    | nil => intro s h; exact h
    | cons i rest ih => intro s h; exact ih _ (oamDmaByte_inv d s i h)
  have hk := key (List.range 256) s h
  unfold oamDma
  generalize List.foldl (oamDmaByte d) s (List.range 256) = t at hk
  exact hk

/-- A call of a mapper keeps the invariant. -/
theorem mapperCall_inv (s : State) (c : MapperCall) (h : s.Inv) : (mapperCall s c).Inv := by
  have hp := State.inv_ppu h
  cases c with
  | install i =>
    obtain ⟨_, _, e⟩ := applyInstall_eq i { s with mapper := s.mapper.addInstall i }
    rw [mapperCall, e]
    obtain ⟨h1, h2, h3, h4, h5, h6, h7, h8, h9, h10⟩ := h
    refine ⟨h1, h2, h3, h4, h5, h6, h7, h8, ?_, h10⟩
    revert h9
    cases s.mapper <;> exact id
  | requestIrq => exact h
  | clearIrqRequest => exact h
  | setPrgWindow w =>
    obtain ⟨h1, h2, h3, h4, h5, h6, h7, h8, h9, h10⟩ := h
    refine ⟨h1, h2, h3, h4, h5, h6, h7, h8, ?_, h10⟩
    revert h9
    simp only [mapperCall]
    cases s.mapper <;> exact id
  | setChrBankOffset i offset =>
    have hc : (setChrBankOffset i offset s).ppu.ok := Ppu.ok_log (p := { s.ppu with current := _ }) hp
    exact State.inv_withPpu h hc s.deviceLog s.trace
  | setMirrorMode d =>
    have hc : (setMirrorMode d s).ppu.ok := Ppu.ok_log (p := { s.ppu with current := _ }) hp
    exact State.inv_withPpu h hc s.deviceLog s.trace

theorem mapperInput_inv (e : MapperInput) (s : State) (h : s.Inv) : (mapperInput e s).Inv := by
  have key : ∀ (l : List MapperCall) (s : State), s.Inv → (l.foldl mapperCall s).Inv := by
    intro l
    induction l with
    | nil => intro s h; exact h
    | cons c l ih => intro s h; exact ih _ (mapperCall_inv s c h)
  unfold mapperInput
  split
  · exact h
  · exact h
  · obtain ⟨h1, h2, h3, h4, h5, h6, h7, h8, -, h10⟩ := h
    exact key _ _ ⟨h1, h2, h3, h4, h5, h6, h7, h8, rfl, h10⟩

theorem mapperWrite_inv (a : Word) (d : Byte) (s : State) (h : s.Inv) : (mapperWrite a d s).Inv := by
  unfold mapperWrite
  split
  · exact h
  · obtain ⟨h1, h2, h3, h4, h5, h6, h7, h8, -, h10⟩ := h
    exact ⟨h1, h2, h3, h4, h5, h6, h7, h8, by simp [Mapper.bankInRange, Nat.mod_lt _ h8], h10⟩
  · exact mapperInput_inv _ s h

theorem ramIndex_lt (a : Word) : ramIndex a < 2048 := by
  unfold ramIndex; rw [BitVec.toNat_and]; exact Nat.lt_of_le_of_lt Nat.and_le_right (by decide)

theorem prgRamIndex_lt (a : Word) : prgRamIndex a < 8192 := by
  unfold prgRamIndex; rw [BitVec.toNat_and]; exact Nat.lt_of_le_of_lt Nat.and_le_right (by decide)

theorem busWrite_inv (a : Word) (v : Byte) (s : State) (h : s.Inv) : (busWrite a v s).Inv := by
  have h0 := h
  obtain ⟨h1, h2, h3, hr⟩ := h
  unfold busWrite
  split
  · exact h0
  · exact ⟨Memory.ok_write _ _ _ _ h1 (ramIndex_lt a), h2, h3, hr⟩
  · exact ppuWrite_inv _ _ s h0
  · split
    · exact oamDma_inv v s h0
    · exact h0
  · exact ⟨h1, Memory.ok_write _ _ _ _ h2 (prgRamIndex_lt a), h3, hr⟩
  · exact mapperWrite_inv a v s h0
  · exact mapperInput_inv _ (deviceWrite a v s) h0
  · exact ⟨h1, h2, Memory.ok_write _ _ _ _ h3 a.isLt, hr⟩

/-- A write leaves an NMI that is pending already as it is (R612). -/
theorem busWrite_pendingNmi (a : Word) (v : Byte) (s : State) (h : s.nmiPending = true) :
    (busWrite a v s).nmiPending = true ∧ (busWrite a v s).nmiDelay = s.nmiDelay := by
  unfold busWrite
  split
  · exact ⟨h, rfl⟩
  · exact ⟨h, rfl⟩
  · unfold ppuWrite
    split <;> try exact ⟨h, rfl⟩
    simp only
    split
    · simp [requestNmi, h]
    · exact ⟨h, rfl⟩
  · split
    · unfold oamDma stall
      obtain ⟨p, dl, e⟩ := oamDma_copy_eq v (List.range 256) s
      rw [e]; exact ⟨h, rfl⟩
    · exact ⟨h, rfl⟩
  · exact ⟨h, rfl⟩
  · obtain ⟨_, _, _, _, _, e⟩ := mapperWrite_only a v s
    rw [e]; exact ⟨h, rfl⟩
  · obtain ⟨_, _, _, _, _, e⟩ := mapperInput_only (.write a v) (deviceWrite a v s)
    rw [e]; exact ⟨h, rfl⟩
  · exact ⟨h, rfl⟩

/-! ## What a mapper may move -/

/-- The request mask and the slots are unchanged unless the mapper can call back; whether it can does not change (R641,
R643). -/
structure MapperKept (s t : State) : Prop where
  callsBack : t.mapper.callsBack = s.mapper.callsBack
  irqRequest : s.mapper.callsBack = false → t.irqRequest = s.irqRequest
  readSlot : s.mapper.callsBack = false → t.readSlot = s.readSlot
  writeSlot : s.mapper.callsBack = false → t.writeSlot = s.writeSlot

/-- The mapper, the request mask and the slots are unchanged. -/
structure MapperSame (s t : State) : Prop where
  mapper : t.mapper = s.mapper
  irqRequest : t.irqRequest = s.irqRequest
  readSlot : t.readSlot = s.readSlot
  writeSlot : t.writeSlot = s.writeSlot

theorem MapperSame.refl (s : State) : MapperSame s s := ⟨rfl, rfl, rfl, rfl⟩

theorem MapperSame.trans {s t u : State} (h : MapperSame s t) (k : MapperSame t u) : MapperSame s u :=
  ⟨k.mapper.trans h.mapper, k.irqRequest.trans h.irqRequest, k.readSlot.trans h.readSlot, k.writeSlot.trans h.writeSlot⟩

theorem MapperSame.kept {s t : State} (h : MapperSame s t) : MapperKept s t :=
  ⟨by rw [h.mapper], fun _ => h.irqRequest, fun _ => h.readSlot, fun _ => h.writeSlot⟩

theorem MapperKept.refl (s : State) : MapperKept s s := (MapperSame.refl s).kept

theorem MapperKept.trans {s t u : State} (h : MapperKept s t) (k : MapperKept t u) : MapperKept s u :=
  ⟨k.callsBack.trans h.callsBack, fun e => (k.irqRequest (h.callsBack.trans e)).trans (h.irqRequest e),
    fun e => (k.readSlot (h.callsBack.trans e)).trans (h.readSlot e),
    fun e => (k.writeSlot (h.callsBack.trans e)).trans (h.writeSlot e)⟩

/-- Of a mapper that can call back, only that it still can is promised. -/
theorem MapperKept.of_callsBack {s t : State} (h : s.mapper.callsBack = true) (k : t.mapper.callsBack = true) :
    MapperKept s t :=
  ⟨k.trans h.symm, fun e => Bool.noConfusion (h.symm.trans e), fun e => Bool.noConfusion (h.symm.trans e),
    fun e => Bool.noConfusion (h.symm.trans e)⟩

theorem ReadsOnly.mapperSame {s t : State} (h : ReadsOnly s t) : MapperSame s t :=
  ⟨h.mapper, h.irqRequest, h.readSlot, h.writeSlot⟩

@[simp] theorem applyInstall_mapper (i : HandlerInstall) (s : State) : (applyInstall s i).mapper = s.mapper := by
  cases i <;> rfl

theorem mapperCall_callsBack (s : State) (c : MapperCall) : (mapperCall s c).mapper.callsBack = s.mapper.callsBack := by
  cases c <;> simp only [mapperCall, applyInstall_mapper]
  case install => cases s.mapper <;> rfl
  case setPrgWindow => cases s.mapper <;> rfl
  all_goals rfl

theorem mapperCalls_callsBack (l : List MapperCall) :
    ∀ s : State, (l.foldl mapperCall s).mapper.callsBack = s.mapper.callsBack := by
  induction l with
  | nil => exact fun _ => rfl
  | cons c l ih => exact fun s => (ih _).trans (mapperCall_callsBack s c)

theorem mapperInput_kept (e : MapperInput) (s : State) : MapperKept s (mapperInput e s) := by
  unfold mapperInput
  split
  · exact .refl s
  · exact .refl s
  · rename_i hm
    exact .of_callsBack (by rw [hm]; rfl) (mapperCalls_callsBack _ _)

/-- A write whose slot does not lead to the mapper leaves the mapper, the request mask and the slots alone. -/
theorem busWrite_mapperSame (a : Word) (v : Byte) (s : State)
    (h : s.writeSlot[blockOf a] ≠ .cartridge ∧ s.writeSlot[blockOf a] ≠ .mapperDevice) : MapperSame s (busWrite a v s) := by
  unfold busWrite
  split
  · exact .refl s
  · exact ⟨rfl, rfl, rfl, rfl⟩
  · unfold ppuWrite
    split
    · split
      · rw [requestNmi_eq]; exact ⟨rfl, rfl, rfl, rfl⟩
      · exact ⟨rfl, rfl, rfl, rfl⟩
    all_goals exact ⟨rfl, rfl, rfl, rfl⟩
  · split
    · unfold oamDma stall
      obtain ⟨p, dl, e⟩ := oamDma_copy_eq v (List.range 256) s
      rw [e]; exact ⟨rfl, rfl, rfl, rfl⟩
    · exact ⟨rfl, rfl, rfl, rfl⟩
  · exact ⟨rfl, rfl, rfl, rfl⟩
  · rename_i hc; exact absurd hc h.1
  · rename_i hc; exact absurd hc h.2
  · exact ⟨rfl, rfl, rfl, rfl⟩

theorem busWrite_kept (a : Word) (v : Byte) (s : State) : MapperKept s (busWrite a v s) := by
  by_cases hc : s.writeSlot[blockOf a] = .cartridge
  · unfold busWrite
    simp only [hc]
    unfold mapperWrite
    split
    · exact .refl s
    · rename_i hm; exact ⟨by rw [hm]; rfl, fun _ => rfl, fun _ => rfl, fun _ => rfl⟩
    · exact mapperInput_kept _ s
  by_cases hd : s.writeSlot[blockOf a] = .mapperDevice
  · unfold busWrite
    simp only [hd]
    have k : MapperSame s (deviceWrite a v s) := ⟨rfl, rfl, rfl, rfl⟩
    exact k.kept.trans (mapperInput_kept _ _)
  exact (busWrite_mapperSame a v s ⟨hc, hd⟩).kept

/-- A write to a stored byte leaves the mapper, the request mask and the slots alone. -/
theorem busWrite_mapperSame_of_place (a : Word) (v : Byte) (s : State) (h : writePlace a s ≠ none) :
    MapperSame s (busWrite a v s) := by
  refine busWrite_mapperSame a v s ⟨fun e => h ?_, fun e => h ?_⟩ <;> simp only [writePlace, e]

/-! ## The handlers as installed

An installation turns one table of handlers into another, whatever else the state holds; so each lemma names the two tables
once for every state. -/

/-- `s` with other tables of handlers. -/
def State.withSlots (rs ws : Vector Handler 8) (s : State) : State := { s with readSlot := rs, writeSlot := ws }

@[simp] theorem State.withSlots_mapper (rs ws : Vector Handler 8) (s : State) : (s.withSlots rs ws).mapper = s.mapper := rfl
@[simp] theorem State.withSlots_cart (rs ws : Vector Handler 8) (s : State) : (s.withSlots rs ws).cart = s.cart := rfl
@[simp] theorem State.withSlots_readSlot (rs ws : Vector Handler 8) (s : State) : (s.withSlots rs ws).readSlot = rs := rfl
@[simp] theorem State.withSlots_writeSlot (rs ws : Vector Handler 8) (s : State) : (s.withSlots rs ws).writeSlot = ws := rfl

theorem State.withSlots_self {rs ws : Vector Handler 8} {s : State} :
    s.withSlots rs ws = s ↔ rs = s.readSlot ∧ ws = s.writeSlot :=
  ⟨fun e => ⟨congrArg State.readSlot e, congrArg State.writeSlot e⟩, fun ⟨hr, hw⟩ => by rw [hr, hw]; rfl⟩

theorem setMemory_withSlots (first last : Word) (h : Handler) (rs ws : Vector Handler 8) (s : State) :
    setMemory first last h (s.withSlots rs ws) = s.withSlots (installRange first last h rs) (installRange first last h ws) := rfl

theorem applyInstall_table (i : HandlerInstall) (rs ws : Vector Handler 8) :
    ∃ rs' ws', ∀ u : State, applyInstall (u.withSlots rs ws) i = u.withSlots rs' ws' := by
  cases i with
  | read first last h => exact ⟨installRange first last h rs, ws, fun _ => rfl⟩
  | write first last h => exact ⟨rs, installRange first last h ws, fun _ => rfl⟩

theorem installs_table (l : List HandlerInstall) : ∀ rs ws : Vector Handler 8,
    ∃ rs' ws', ∀ u : State, l.foldl applyInstall (u.withSlots rs ws) = u.withSlots rs' ws' := by
  induction l with
  | nil => exact fun rs ws => ⟨rs, ws, fun _ => rfl⟩
  | cons i l ih =>
    intro rs ws
    obtain ⟨rs', ws', h⟩ := applyInstall_table i rs ws
    obtain ⟨rs'', ws'', h'⟩ := ih rs' ws'
    exact ⟨rs'', ws'', fun u => by rw [List.foldl_cons, h, h']⟩

/-- The console's part (R113, R630). -/
theorem installConsole_table : ∃ rs ws, ∀ s : State, installConsole (clearMemoryMap s) = s.withSlots rs ws :=
  ⟨_, _, fun s => by
    rw [show clearMemoryMap s = s.withSlots (Vector.replicate 8 .unmapped) (Vector.replicate 8 .unmapped) from rfl]
    unfold installConsole
    rw [setMemory_withSlots, setMemory_withSlots, setMemory_withSlots]⟩

/-- A reference mapper's part comes from the cartridge; that of a mapper of the contract from what it has installed (R641,
R644). -/
theorem installDevices_table (c : Cartridge) : ∃ rs ws rs' ws', ∀ s : State, s.cart = c →
    (s.mapper = .nrom → installDevices s = s.withSlots rs ws) ∧
    (∀ b, s.mapper = .uxrom b → installDevices s = s.withSlots rs' ws') := by
  obtain ⟨rs, ws, h⟩ := installConsole_table
  let r1 := installRange 0x8000#16 0xFFFF#16 .cartridge rs
  let w1 := installRange 0x8000#16 0xFFFF#16 .cartridge ws
  refine ⟨if c.battery then installRange 0x6000#16 0x7FFF#16 .prgRam r1 else r1,
    if c.battery then installRange 0x6000#16 0x7FFF#16 .prgRam w1 else w1, r1, w1, fun s hc => ⟨fun hm => ?_, fun b hm => ?_⟩⟩
  · unfold installDevices installMapper
    simp only [h, State.withSlots_mapper, hm, State.withSlots_cart, hc, setMemory_withSlots]
    cases c.battery <;> simp only [Bool.false_eq_true, if_true, if_false, r1, w1]
  · unfold installDevices installMapper
    rw [h, State.withSlots_mapper, hm]
    exact setMemory_withSlots _ _ _ _ _ s

theorem installDevices_contract (installs : List HandlerInstall) : ∃ rs ws, (∀ (s : State) windows inputs,
      s.mapper = .contract windows installs inputs → installDevices s = s.withSlots rs ws) ∧
    ∀ (i : HandlerInstall) (s : State) windows inputs, s.mapper = .contract windows (installs ++ [i]) inputs →
      installDevices s = applyInstall (s.withSlots rs ws) i := by
  obtain ⟨rs, ws, h⟩ := installConsole_table
  obtain ⟨rs', ws', h'⟩ := installs_table installs rs ws
  refine ⟨rs', ws', fun s windows inputs hm => ?_, fun i s windows inputs hm => ?_⟩
  · unfold installDevices installMapper
    rw [h, State.withSlots_mapper, hm]
    exact h' s
  · unfold installDevices installMapper
    rw [h, State.withSlots_mapper, hm]
    show (installs ++ [i]).foldl applyInstall _ = _
    rw [List.foldl_append, h']
    rfl

/-- The handlers are as installed in `t` when they are in `s`, and `t` has the same table from the same installation. -/
theorem installed_of_table {s t : State} {rs ws : Vector Handler 8} (hs : installDevices s = s.withSlots rs ws)
    (ht : installDevices t = t.withSlots rs ws) (hr : t.readSlot = s.readSlot) (hw : t.writeSlot = s.writeSlot)
    (e : installDevices s = s) : installDevices t = t := by
  rw [hs, State.withSlots_self] at e
  rw [ht, State.withSlots_self, hr, hw]
  exact e

/-- The handlers stay as installed when neither they nor the mapper and the cartridge change. -/
theorem MapperSame.installed {s t : State} (h : MapperSame s t) (hc : t.cart = s.cart) (e : installDevices s = s) :
    installDevices t = t := by
  obtain ⟨_, _, _, _, k⟩ := installDevices_table s.cart
  cases hm : s.mapper with
  | nrom => exact installed_of_table ((k s rfl).1 hm) ((k t hc).1 (h.mapper.trans hm)) h.readSlot h.writeSlot e
  | uxrom b => exact installed_of_table ((k s rfl).2 b hm) ((k t hc).2 b (h.mapper.trans hm)) h.readSlot h.writeSlot e
  | contract windows installs inputs =>
    obtain ⟨_, _, k, -⟩ := installDevices_contract installs
    exact installed_of_table (k s _ _ hm) (k t _ _ (h.mapper.trans hm)) h.readSlot h.writeSlot e

/-- A call of a mapper of the contract keeps the handlers as installed: what it installs joins its state (R641, R647). -/
theorem mapperCall_installed (c : MapperCall) (s : State) (hs : s.mapper.callsBack = true) (e : installDevices s = s) :
    installDevices (mapperCall s c) = mapperCall s c := by
  cases hm : s.mapper with
  | nrom => rw [hm] at hs; cases hs
  | uxrom b => rw [hm] at hs; cases hs
  | contract windows installs inputs =>
    obtain ⟨rs, ws, k, ki⟩ := installDevices_contract installs
    have hs' := k s windows inputs hm
    cases c
    case install i =>
      have ht : (mapperCall s (.install i)).mapper = .contract windows (installs ++ [i]) inputs := by
        simp only [mapperCall, applyInstall_mapper, hm, Mapper.addInstall]
      rw [ki i _ windows inputs ht]
      rw [hs', State.withSlots_self] at e
      rw [e.1, e.2]
      cases i <;> rfl
    case setPrgWindow w =>
      have ht : (mapperCall s (.setPrgWindow w)).mapper = .contract (windows ++ [w]) installs inputs := by
        simp only [mapperCall, hm, Mapper.addWindow]
      exact installed_of_table hs' (k _ _ _ ht) rfl rfl e
    all_goals exact installed_of_table hs' (k _ windows inputs hm) rfl rfl e

theorem mapperInput_installed (m : MapperInput) (s : State) (e : installDevices s = s) :
    installDevices (mapperInput m s) = mapperInput m s := by
  have key : ∀ (l : List MapperCall) (s : State), s.mapper.callsBack = true → installDevices s = s →
      installDevices (l.foldl mapperCall s) = l.foldl mapperCall s := by
    intro l
    induction l with
    | nil => exact fun _ _ e => e
    | cons c l ih => exact fun s h e => ih _ ((mapperCall_callsBack s c).trans h) (mapperCall_installed c s h e)
  unfold mapperInput
  split
  · exact e
  · exact e
  · rename_i windows installs inputs hm
    obtain ⟨_, _, k, -⟩ := installDevices_contract installs
    refine key _ _ rfl ?_
    have k' := k { s with mapper := .contract windows installs (inputs ++ [m]) } windows (inputs ++ [m]) rfl
    exact installed_of_table (k s windows inputs hm) k' rfl rfl e

/-- A write keeps the handlers as installed (R641, R647). -/
theorem busWrite_installed (a : Word) (v : Byte) (s : State) (e : installDevices s = s) :
    installDevices (busWrite a v s) = busWrite a v s := by
  by_cases hc : s.writeSlot[blockOf a] = .cartridge
  · unfold busWrite
    simp only [hc]
    unfold mapperWrite
    split
    · exact e
    · rename_i b hm
      obtain ⟨_, _, _, _, k⟩ := installDevices_table s.cart
      have k' := (k { s with mapper := .uxrom (v.toNat % s.cart.prgBanks) } rfl).2 _ rfl
      exact installed_of_table ((k s rfl).2 b hm) k' rfl rfl e
    · exact mapperInput_installed _ s e
  by_cases hd : s.writeSlot[blockOf a] = .mapperDevice
  · unfold busWrite
    simp only [hd]
    have k : MapperSame s (deviceWrite a v s) := ⟨rfl, rfl, rfl, rfl⟩
    exact mapperInput_installed _ _ (k.installed rfl e)
  exact (busWrite_mapperSame a v s ⟨hc, hd⟩).installed (by simp) e

end Sys2Proof.Machine
end

