-- ==== Sys2Proof/Laws/Ops.lean ====
section
/-! SUPPORT. Everything the CPU's shared operations can do, said once: operand reads change at most the PPU, the device log
and the trace; every operation keeps the pause and debug state, the bookkeeping, the cartridge, the parameters and the
invariant, and, unless the mapper can call back, the slots and the request mask; what each one does to the trace. -/

namespace Sys2Proof.Machine

/-! ## Reads -/

theorem cpuRead_readsOnly (a : Word) (s : State) : ReadsOnly s (cpuRead a s).2 := by
  obtain ⟨p, l, tr, h⟩ := busRead_readsOnly a s
  unfold cpuRead; simp only [h]; exact ⟨p, l, _, rfl⟩

@[simp] theorem cpuRead_fst (a : Word) (s : State) : (cpuRead a s).1 = (busRead a s).1 := rfl

/-- A CPU read is one entry of the trace (R110). -/
@[simp] theorem cpuRead_trace (a : Word) (s : State) : (cpuRead a s).2.trace = s.trace ++ [.read a] := by
  unfold cpuRead; simp

/-- A CPU read through a plain slot changes nothing but the trace. -/
theorem cpuRead_plain (a : Word) (s : State) (h : (s.readSlot[blockOf a]).isPlain = true) :
    (cpuRead a s).2 = { s with trace := s.trace ++ [.read a] } := by
  unfold cpuRead; simp only [busRead_plain a s h]

@[simp] theorem cpuRead_cpu (a : Word) (s : State) : (cpuRead a s).2.cpu = s.cpu := (cpuRead_readsOnly a s).cpu
@[simp] theorem cpuRead_nmiPending (a : Word) (s : State) : (cpuRead a s).2.nmiPending = s.nmiPending := (cpuRead_readsOnly a s).nmiPending
@[simp] theorem cpuRead_nmiDelay (a : Word) (s : State) : (cpuRead a s).2.nmiDelay = s.nmiDelay := (cpuRead_readsOnly a s).nmiDelay
@[simp] theorem cpuRead_irqRequest (a : Word) (s : State) : (cpuRead a s).2.irqRequest = s.irqRequest := (cpuRead_readsOnly a s).irqRequest
@[simp] theorem cpuRead_stallCycles (a : Word) (s : State) : (cpuRead a s).2.stallCycles = s.stallCycles := (cpuRead_readsOnly a s).stallCycles
@[simp] theorem cpuRead_paused (a : Word) (s : State) : (cpuRead a s).2.paused = s.paused := (cpuRead_readsOnly a s).paused
@[simp] theorem cpuRead_debug (a : Word) (s : State) : (cpuRead a s).2.debugCfg = s.debugCfg := (cpuRead_readsOnly a s).debugCfg
@[simp] theorem cpuRead_cycleTotal (a : Word) (s : State) : (cpuRead a s).2.cycleTotal = s.cycleTotal := (cpuRead_readsOnly a s).cycleTotal
@[simp] theorem cpuRead_faults (a : Word) (s : State) : (cpuRead a s).2.faults = s.faults := (cpuRead_readsOnly a s).faults
@[simp] theorem cpuRead_stepCycles (a : Word) (s : State) : (cpuRead a s).2.stepCycles = s.stepCycles := (cpuRead_readsOnly a s).stepCycles
@[simp] theorem cpuRead_readSlot (a : Word) (s : State) : (cpuRead a s).2.readSlot = s.readSlot := (cpuRead_readsOnly a s).readSlot
@[simp] theorem cpuRead_writeSlot (a : Word) (s : State) : (cpuRead a s).2.writeSlot = s.writeSlot := (cpuRead_readsOnly a s).writeSlot
@[simp] theorem cpuRead_ram (a : Word) (s : State) : (cpuRead a s).2.ram = s.ram := (cpuRead_readsOnly a s).ram
@[simp] theorem cpuRead_prgRam (a : Word) (s : State) : (cpuRead a s).2.prgRam = s.prgRam := (cpuRead_readsOnly a s).prgRam
@[simp] theorem cpuRead_flat (a : Word) (s : State) : (cpuRead a s).2.flat = s.flat := (cpuRead_readsOnly a s).flat
@[simp] theorem cpuRead_cart (a : Word) (s : State) : (cpuRead a s).2.cart = s.cart := (cpuRead_readsOnly a s).cart
@[simp] theorem cpuRead_mapper (a : Word) (s : State) : (cpuRead a s).2.mapper = s.mapper := (cpuRead_readsOnly a s).mapper
@[simp] theorem cpuRead_params (a : Word) (s : State) : (cpuRead a s).2.params = s.params := (cpuRead_readsOnly a s).params

theorem cpuReadWord_readsOnly (a : Word) (s : State) : ReadsOnly s (cpuReadWord a s).2 :=
  (cpuRead_readsOnly a s).trans (cpuRead_readsOnly (a + 1#16) (cpuRead a s).2)

theorem cpuReadZeroPageWord_readsOnly (p : Byte) (s : State) : ReadsOnly s (cpuReadZeroPageWord p s).2 :=
  (cpuRead_readsOnly _ s).trans (cpuRead_readsOnly _ _)

theorem cpuReadPageWrappedWord_readsOnly (p : Word) (s : State) : ReadsOnly s (cpuReadPageWrappedWord p s).2 :=
  (cpuRead_readsOnly _ s).trans (cpuRead_readsOnly _ _)

/-- Computing an effective address changes nothing but what its pointer reads change (R110 item 3). -/
theorem effectiveAddress_readsOnly (m : MemOperand) (s : State) : ReadsOnly s (effectiveAddress m s).st := by
  cases m with
  | zp z => exact .refl s
  | zpx z => exact .refl s
  | zpy z => exact .refl s
  | abs w => exact .refl s
  | absx w => exact .refl s
  | absy w => exact .refl s
  | izx z => exact cpuReadZeroPageWord_readsOnly _ s
  | izy z => exact cpuReadZeroPageWord_readsOnly _ s

/-- Reading an operand changes nothing but what its bus reads change. -/
theorem readSource_readsOnly (o : Source) (s : State) : ReadsOnly s (readSource o s).st := by
  cases o with
  | imm b => exact .refl s
  | mem m => exact (effectiveAddress_readsOnly m s).trans (cpuRead_readsOnly _ _)

@[simp] theorem effectiveAddress_cpu (m : MemOperand) (s : State) : (effectiveAddress m s).st.cpu = s.cpu :=
  (effectiveAddress_readsOnly m s).cpu
@[simp] theorem effectiveAddress_nmiPending (m : MemOperand) (s : State) : (effectiveAddress m s).st.nmiPending = s.nmiPending :=
  (effectiveAddress_readsOnly m s).nmiPending
@[simp] theorem effectiveAddress_nmiDelay (m : MemOperand) (s : State) : (effectiveAddress m s).st.nmiDelay = s.nmiDelay :=
  (effectiveAddress_readsOnly m s).nmiDelay
@[simp] theorem effectiveAddress_irqRequest (m : MemOperand) (s : State) : (effectiveAddress m s).st.irqRequest = s.irqRequest :=
  (effectiveAddress_readsOnly m s).irqRequest
@[simp] theorem effectiveAddress_stallCycles (m : MemOperand) (s : State) : (effectiveAddress m s).st.stallCycles = s.stallCycles :=
  (effectiveAddress_readsOnly m s).stallCycles
@[simp] theorem effectiveAddress_paused (m : MemOperand) (s : State) : (effectiveAddress m s).st.paused = s.paused :=
  (effectiveAddress_readsOnly m s).paused
@[simp] theorem effectiveAddress_debug (m : MemOperand) (s : State) : (effectiveAddress m s).st.debugCfg = s.debugCfg :=
  (effectiveAddress_readsOnly m s).debugCfg
@[simp] theorem effectiveAddress_cycleTotal (m : MemOperand) (s : State) : (effectiveAddress m s).st.cycleTotal = s.cycleTotal :=
  (effectiveAddress_readsOnly m s).cycleTotal
@[simp] theorem effectiveAddress_faults (m : MemOperand) (s : State) : (effectiveAddress m s).st.faults = s.faults :=
  (effectiveAddress_readsOnly m s).faults
@[simp] theorem effectiveAddress_stepCycles (m : MemOperand) (s : State) : (effectiveAddress m s).st.stepCycles = s.stepCycles :=
  (effectiveAddress_readsOnly m s).stepCycles
@[simp] theorem effectiveAddress_readSlot (m : MemOperand) (s : State) : (effectiveAddress m s).st.readSlot = s.readSlot :=
  (effectiveAddress_readsOnly m s).readSlot
@[simp] theorem effectiveAddress_writeSlot (m : MemOperand) (s : State) : (effectiveAddress m s).st.writeSlot = s.writeSlot :=
  (effectiveAddress_readsOnly m s).writeSlot
@[simp] theorem effectiveAddress_ram (m : MemOperand) (s : State) : (effectiveAddress m s).st.ram = s.ram :=
  (effectiveAddress_readsOnly m s).ram
@[simp] theorem effectiveAddress_prgRam (m : MemOperand) (s : State) : (effectiveAddress m s).st.prgRam = s.prgRam :=
  (effectiveAddress_readsOnly m s).prgRam
@[simp] theorem effectiveAddress_flat (m : MemOperand) (s : State) : (effectiveAddress m s).st.flat = s.flat :=
  (effectiveAddress_readsOnly m s).flat
@[simp] theorem effectiveAddress_cart (m : MemOperand) (s : State) : (effectiveAddress m s).st.cart = s.cart :=
  (effectiveAddress_readsOnly m s).cart
@[simp] theorem effectiveAddress_mapper (m : MemOperand) (s : State) : (effectiveAddress m s).st.mapper = s.mapper :=
  (effectiveAddress_readsOnly m s).mapper
@[simp] theorem effectiveAddress_params (m : MemOperand) (s : State) : (effectiveAddress m s).st.params = s.params :=
  (effectiveAddress_readsOnly m s).params
@[simp] theorem readSource_cpu (o : Source) (s : State) : (readSource o s).st.cpu = s.cpu := (readSource_readsOnly o s).cpu
@[simp] theorem readSource_nmiPending (o : Source) (s : State) : (readSource o s).st.nmiPending = s.nmiPending := (readSource_readsOnly o s).nmiPending
@[simp] theorem readSource_nmiDelay (o : Source) (s : State) : (readSource o s).st.nmiDelay = s.nmiDelay := (readSource_readsOnly o s).nmiDelay
@[simp] theorem readSource_irqRequest (o : Source) (s : State) : (readSource o s).st.irqRequest = s.irqRequest := (readSource_readsOnly o s).irqRequest
@[simp] theorem readSource_stallCycles (o : Source) (s : State) : (readSource o s).st.stallCycles = s.stallCycles := (readSource_readsOnly o s).stallCycles
@[simp] theorem readSource_paused (o : Source) (s : State) : (readSource o s).st.paused = s.paused := (readSource_readsOnly o s).paused
@[simp] theorem readSource_debug (o : Source) (s : State) : (readSource o s).st.debugCfg = s.debugCfg := (readSource_readsOnly o s).debugCfg
@[simp] theorem readSource_cycleTotal (o : Source) (s : State) : (readSource o s).st.cycleTotal = s.cycleTotal := (readSource_readsOnly o s).cycleTotal
@[simp] theorem readSource_faults (o : Source) (s : State) : (readSource o s).st.faults = s.faults := (readSource_readsOnly o s).faults
@[simp] theorem readSource_stepCycles (o : Source) (s : State) : (readSource o s).st.stepCycles = s.stepCycles := (readSource_readsOnly o s).stepCycles
@[simp] theorem readSource_readSlot (o : Source) (s : State) : (readSource o s).st.readSlot = s.readSlot := (readSource_readsOnly o s).readSlot
@[simp] theorem readSource_writeSlot (o : Source) (s : State) : (readSource o s).st.writeSlot = s.writeSlot := (readSource_readsOnly o s).writeSlot
@[simp] theorem readSource_ram (o : Source) (s : State) : (readSource o s).st.ram = s.ram := (readSource_readsOnly o s).ram
@[simp] theorem readSource_prgRam (o : Source) (s : State) : (readSource o s).st.prgRam = s.prgRam := (readSource_readsOnly o s).prgRam
@[simp] theorem readSource_flat (o : Source) (s : State) : (readSource o s).st.flat = s.flat := (readSource_readsOnly o s).flat
@[simp] theorem readSource_cart (o : Source) (s : State) : (readSource o s).st.cart = s.cart := (readSource_readsOnly o s).cart
@[simp] theorem readSource_mapper (o : Source) (s : State) : (readSource o s).st.mapper = s.mapper := (readSource_readsOnly o s).mapper
@[simp] theorem readSource_params (o : Source) (s : State) : (readSource o s).st.params = s.params := (readSource_readsOnly o s).params

/-! ## Writes -/

/-- A CPU write is one entry of the trace (R110). -/
@[simp] theorem cpuWrite_trace (a : Word) (v : Byte) (s : State) : (cpuWrite a v s).trace = s.trace ++ [.write a v] := by
  unfold cpuWrite; simp

@[simp] theorem cpuWrite_cpu (a : Word) (v : Byte) (s : State) : (cpuWrite a v s).cpu = s.cpu := busWrite_cpu a v s
@[simp] theorem cpuWrite_irqRequest (a : Word) (v : Byte) (s : State) : (cpuWrite a v s).irqRequest = (busWrite a v s).irqRequest := rfl
@[simp] theorem cpuWrite_paused (a : Word) (v : Byte) (s : State) : (cpuWrite a v s).paused = s.paused := busWrite_paused a v s
@[simp] theorem cpuWrite_debug (a : Word) (v : Byte) (s : State) : (cpuWrite a v s).debugCfg = s.debugCfg := busWrite_debug a v s
@[simp] theorem cpuWrite_cycleTotal (a : Word) (v : Byte) (s : State) : (cpuWrite a v s).cycleTotal = s.cycleTotal := busWrite_cycleTotal a v s
@[simp] theorem cpuWrite_faults (a : Word) (v : Byte) (s : State) : (cpuWrite a v s).faults = s.faults := busWrite_faults a v s
@[simp] theorem cpuWrite_stepCycles (a : Word) (v : Byte) (s : State) : (cpuWrite a v s).stepCycles = s.stepCycles := busWrite_stepCycles a v s
@[simp] theorem cpuWrite_readSlot (a : Word) (v : Byte) (s : State) : (cpuWrite a v s).readSlot = (busWrite a v s).readSlot := rfl
@[simp] theorem cpuWrite_writeSlot (a : Word) (v : Byte) (s : State) : (cpuWrite a v s).writeSlot = (busWrite a v s).writeSlot := rfl
@[simp] theorem cpuWrite_cart (a : Word) (v : Byte) (s : State) : (cpuWrite a v s).cart = s.cart := busWrite_cart a v s
@[simp] theorem cpuWrite_params (a : Word) (v : Byte) (s : State) : (cpuWrite a v s).params = s.params := busWrite_params a v s
@[simp] theorem cpuWrite_nmiPending (a : Word) (v : Byte) (s : State) : (cpuWrite a v s).nmiPending = (busWrite a v s).nmiPending := rfl
@[simp] theorem cpuWrite_nmiDelay (a : Word) (v : Byte) (s : State) : (cpuWrite a v s).nmiDelay = (busWrite a v s).nmiDelay := rfl
@[simp] theorem cpuWrite_stallCycles (a : Word) (v : Byte) (s : State) : (cpuWrite a v s).stallCycles = (busWrite a v s).stallCycles := rfl
@[simp] theorem cpuWrite_ram (a : Word) (v : Byte) (s : State) : (cpuWrite a v s).ram = (busWrite a v s).ram := rfl
@[simp] theorem cpuWrite_prgRam (a : Word) (v : Byte) (s : State) : (cpuWrite a v s).prgRam = (busWrite a v s).prgRam := rfl
@[simp] theorem cpuWrite_flat (a : Word) (v : Byte) (s : State) : (cpuWrite a v s).flat = (busWrite a v s).flat := rfl
@[simp] theorem cpuWrite_ppu (a : Word) (v : Byte) (s : State) : (cpuWrite a v s).ppu = (busWrite a v s).ppu := rfl
@[simp] theorem cpuWrite_mapper (a : Word) (v : Byte) (s : State) : (cpuWrite a v s).mapper = (busWrite a v s).mapper := rfl
@[simp] theorem cpuWrite_deviceLog (a : Word) (v : Byte) (s : State) : (cpuWrite a v s).deviceLog = (busWrite a v s).deviceLog := rfl

/-- The trace is no input of a bus read. -/
theorem busRead_withTrace (b : Word) (s : State) (tr : List BusAccess) :
    (busRead b { s with trace := tr }).1 = (busRead b s).1 := by
  cases h : s.readSlot[blockOf b] <;> simp only [busRead, h]
  · simp only [ppuRead]; cases PpuReg.ofAddr b <;> rfl
  · rfl
  · rfl

@[simp] theorem busRead_cpuWrite (a b : Word) (v : Byte) (s : State) :
    (busRead b (cpuWrite a v s)).1 = (busRead b (busWrite a v s)).1 := busRead_withTrace b _ _

/-! ## What every operation keeps -/

/-- What no operation of an instruction or of an interrupt entry changes, and that it keeps the invariant, the handlers as
installed, and an NMI that is pending already. -/
structure Keeps (s t : State) : Prop where
  mapper : MapperKept s t
  paused : t.paused = s.paused
  debugCfg : t.debugCfg = s.debugCfg
  cycleTotal : t.cycleTotal = s.cycleTotal
  faults : t.faults = s.faults
  cart : t.cart = s.cart
  params : t.params = s.params
  inv : s.Inv → t.Inv
  installed : installDevices s = s → installDevices t = t
  nmi : s.nmiPending = true → t.nmiPending = true ∧ t.nmiDelay = s.nmiDelay

theorem Keeps.trans {s t u : State} (h : Keeps s t) (k : Keeps t u) : Keeps s u :=
  ⟨h.mapper.trans k.mapper, k.paused.trans h.paused, k.debugCfg.trans h.debugCfg, k.cycleTotal.trans h.cycleTotal,
    k.faults.trans h.faults, k.cart.trans h.cart, k.params.trans h.params, fun i => k.inv (h.inv i),
    fun i => k.installed (h.installed i), fun p => ⟨(k.nmi (h.nmi p).1).1, (k.nmi (h.nmi p).1).2.trans (h.nmi p).2⟩⟩

/-- Writing registers, flags and the cycle count of the step keeps all of it. -/
theorem keeps_core (c : Cpu) (n : Nat) (s : State) : Keeps s { s with cpu := c, stepCycles := n } :=
  have h : MapperSame s { s with cpu := c, stepCycles := n } := ⟨rfl, rfl, rfl, rfl⟩
  ⟨h.kept, rfl, rfl, rfl, rfl, rfl, rfl, id, h.installed rfl, fun h => ⟨h, rfl⟩⟩

theorem Keeps.refl (s : State) : Keeps s s := keeps_core s.cpu s.stepCycles s

theorem keeps_setA (v : Byte) (s : State) : Keeps s (s.setA v) := keeps_core _ _ s
theorem keeps_setX (v : Byte) (s : State) : Keeps s (s.setX v) := keeps_core _ _ s
theorem keeps_setY (v : Byte) (s : State) : Keeps s (s.setY v) := keeps_core _ _ s
theorem keeps_setSp (v : Byte) (s : State) : Keeps s (s.setSp v) := keeps_core _ _ s
theorem keeps_setPc (v : Word) (s : State) : Keeps s (s.setPc v) := keeps_core _ _ s
theorem keeps_setFlags (v : Flags) (s : State) : Keeps s (s.setFlags v) := keeps_core _ _ s
theorem keeps_setCycles (c : Nat) (s : State) : Keeps s (s.setCycles c) := keeps_core _ _ s
theorem keeps_setAFlags (r : Byte × Flags) (s : State) : Keeps s (s.setAFlags r) := keeps_core _ _ s
theorem keeps_setXFlags (r : Byte × Flags) (s : State) : Keeps s (s.setXFlags r) := keeps_core _ _ s
theorem keeps_setYFlags (r : Byte × Flags) (s : State) : Keeps s (s.setYFlags r) := keeps_core _ _ s

theorem keeps_completeAt (pc : Word) (c : Nat) (s : State) : Keeps s (completeAt pc c s) := keeps_core _ _ s

theorem keeps_complete (op : Byte) (x : Bool) (s : State) : Keeps s (complete op x s) := keeps_core _ _ s

theorem keeps_cpuRead (a : Word) (s : State) : Keeps s (cpuRead a s).2 :=
  have h := (cpuRead_readsOnly a s).mapperSame
  ⟨h.kept, by simp, by simp, by simp, by simp, by simp, by simp, fun h => busRead_inv a s h, h.installed (by simp),
    fun h => ⟨by simpa using h, by simp⟩⟩

theorem keeps_cpuWrite (a : Word) (v : Byte) (s : State) : Keeps s (cpuWrite a v s) :=
  have h : MapperSame (busWrite a v s) (cpuWrite a v s) := ⟨rfl, rfl, rfl, rfl⟩
  ⟨(busWrite_kept a v s).trans h.kept, by simp, by simp, by simp, by simp, by simp, by simp, fun h => busWrite_inv a v s h,
    fun k => h.installed rfl (busWrite_installed a v s k), fun h => busWrite_pendingNmi a v s h⟩

theorem keeps_cpuReadWord (a : Word) (s : State) : Keeps s (cpuReadWord a s).2 :=
  (keeps_cpuRead a s).trans (keeps_cpuRead _ _)

theorem keeps_cpuReadZeroPageWord (p : Byte) (s : State) : Keeps s (cpuReadZeroPageWord p s).2 :=
  (keeps_cpuRead _ s).trans (keeps_cpuRead _ _)

theorem keeps_cpuReadPageWrappedWord (p : Word) (s : State) : Keeps s (cpuReadPageWrappedWord p s).2 :=
  (keeps_cpuRead _ s).trans (keeps_cpuRead _ _)

theorem keeps_push (v : Byte) (s : State) : Keeps s (push v s) := (keeps_cpuWrite _ _ s).trans (keeps_setSp _ _)

theorem keeps_pull (s : State) : Keeps s (pull s).2 := (keeps_setSp _ s).trans (keeps_cpuRead _ _)

theorem keeps_push16 (w : Word) (s : State) : Keeps s (push16 w s) := (keeps_push _ s).trans (keeps_push _ _)

theorem keeps_pull16 (s : State) : Keeps s (pull16 s).2 := (keeps_pull s).trans (keeps_pull _)

theorem keeps_enterException (vector ret : Word) (b : Bool) (s : State) : Keeps s (enterException vector ret b s) :=
  ((((keeps_push16 ret s).trans (keeps_push _ _)).trans (keeps_setFlags _ _)).trans (keeps_cpuReadWord vector _)).trans
    (keeps_setPc _ _)

theorem keeps_returnFromException (s : State) : Keeps s (returnFromException s) :=
  (((keeps_pull s).trans (keeps_setFlags _ _)).trans (keeps_pull16 _)).trans (keeps_setPc _ _)

theorem keeps_effectiveAddress (m : MemOperand) (s : State) : Keeps s (effectiveAddress m s).st := by
  cases m with
  | zp z => exact .refl s
  | zpx z => exact .refl s
  | zpy z => exact .refl s
  | abs w => exact .refl s
  | absx w => exact .refl s
  | absy w => exact .refl s
  | izx z => exact keeps_cpuReadZeroPageWord _ s
  | izy z => exact keeps_cpuReadZeroPageWord _ s

theorem keeps_readSource (o : Source) (s : State) : Keeps s (readSource o s).st := by
  cases o with
  | imm b => exact .refl s
  | mem m => exact (keeps_effectiveAddress m s).trans (keeps_cpuRead _ _)

theorem keeps_withSource (op : Byte) (o : Source) (f : Byte → State → State) (hf : ∀ m t, Keeps t (f m t)) (s : State) :
    Keeps s (withSource op o f s) :=
  ((keeps_readSource o s).trans (hf _ _)).trans (keeps_complete _ _ _)

theorem keeps_storeAt (op : Byte) (m : MemOperand) (v : Byte) (s : State) : Keeps s (storeAt op m v s) :=
  ((keeps_effectiveAddress m s).trans (keeps_cpuWrite _ _ _)).trans (keeps_complete _ _ _)

theorem keeps_modifyAt (op : Byte) (m : MemOperand) (core : Byte → Flags → Byte × Flags) (after : Byte → State → State)
    (hf : ∀ r t, Keeps t (after r t)) (s : State) : Keeps s (modifyAt op m core after s) :=
  (((((keeps_effectiveAddress m s).trans (keeps_cpuRead _ _)).trans (keeps_cpuWrite _ _ _)).trans (keeps_setFlags _ _)).trans
    (hf _ _)).trans (keeps_complete _ _ _)

theorem keeps_branch (op : Byte) (taken : Bool) (r : Byte) (s : State) : Keeps s (branch op taken r s) := by
  unfold branch; simp only; split <;> exact keeps_completeAt _ _ _

end Sys2Proof.Machine
end

