-- ==== Sys2Proof/Laws/Exec.lean ====
section
/-! SUPPORT. What an instruction and a step can answer, said once: exec always answers a next state, which either keeps
everything of `Keeps` or is the illegal-opcode halt; fetching keeps everything; the four things a step does. -/

namespace Sys2Proof.Machine

/-- A well-formed instruction keeps everything of `Keeps`; an unknown marker halts (R608). -/
inductive Effect (i : Instr) (s t : State) : Prop where
  | completed (hw : i.wellFormed s.params.extraUnofficial = true) (h : Keeps s t)
  | halted (hw : i.wellFormed s.params.extraUnofficial = false) (h : t = haltIllegal i.opcode s)

theorem effect_whenExtra {i : Instr} {op : Byte} (h : op = i.opcode)
    (hw : ∀ e, i.wellFormed e = e) (f : State → State) (hf : ∀ s, Keeps s (f s))
    (s : State) : Effect i s (whenExtra op f s) := by
  subst h
  unfold whenExtra
  split
  · rename_i hx
    exact .completed (by rw [hw, hx]) (hf s)
  · rename_i hx
    exact .halted (by rw [hw]; simpa using hx) rfl

theorem keeps_shiftA (op : Byte) (core : Byte → Flags → Byte × Flags) (s : State) : Keeps s (shiftA op core s) :=
  (keeps_setAFlags _ s).trans (keeps_complete _ _ _)

theorem keeps_opLda (op : Byte) (o : Source) (s : State) : Keeps s (opLda op o s) :=
  keeps_withSource _ _ _ (fun _ _ => keeps_setAFlags _ _) s

theorem keeps_opAdc (op : Byte) (o : Source) (s : State) : Keeps s (opAdc op o s) :=
  keeps_withSource _ _ _ (fun _ _ => keeps_setAFlags _ _) s

theorem keeps_opSbc (op : Byte) (o : Source) (s : State) : Keeps s (opSbc op o s) :=
  keeps_withSource _ _ _ (fun _ _ => keeps_setAFlags _ _) s

theorem keeps_opAnd (op : Byte) (o : Source) (s : State) : Keeps s (opAnd op o s) :=
  keeps_withSource _ _ _ (fun _ _ => keeps_setAFlags _ _) s

theorem keeps_opOra (op : Byte) (o : Source) (s : State) : Keeps s (opOra op o s) :=
  keeps_withSource _ _ _ (fun _ _ => keeps_setAFlags _ _) s

theorem keeps_opEor (op : Byte) (o : Source) (s : State) : Keeps s (opEor op o s) :=
  keeps_withSource _ _ _ (fun _ _ => keeps_setAFlags _ _) s

theorem keeps_opLdx (op : Byte) (o : Source) (s : State) : Keeps s (opLdx op o s) :=
  keeps_withSource _ _ _ (fun _ _ => keeps_setXFlags _ _) s

theorem keeps_opLdy (op : Byte) (o : Source) (s : State) : Keeps s (opLdy op o s) :=
  keeps_withSource _ _ _ (fun _ _ => keeps_setYFlags _ _) s

theorem keeps_opCmp (op : Byte) (o : Source) (s : State) : Keeps s (opCmp op o s) :=
  keeps_withSource _ _ _ (fun _ _ => keeps_setFlags _ _) s

theorem keeps_opCpx (op : Byte) (o : Source) (s : State) : Keeps s (opCpx op o s) :=
  keeps_withSource _ _ _ (fun _ _ => keeps_setFlags _ _) s

theorem keeps_opCpy (op : Byte) (o : Source) (s : State) : Keeps s (opCpy op o s) :=
  keeps_withSource _ _ _ (fun _ _ => keeps_setFlags _ _) s

theorem keeps_opBit (op : Byte) (o : Source) (s : State) : Keeps s (opBit op o s) :=
  keeps_withSource _ _ _ (fun _ _ => keeps_setFlags _ _) s

theorem keeps_opLax (op : Byte) (o : Source) (s : State) : Keeps s (opLax op o s) :=
  keeps_withSource _ _ _ (fun _ t => (keeps_setAFlags _ t).trans (keeps_setX _ _)) s

theorem keeps_opLas (op : Byte) (o : Source) (s : State) : Keeps s (opLas op o s) :=
  keeps_withSource _ _ _ (fun _ t => ((keeps_setAFlags _ t).trans (keeps_setX _ _)).trans (keeps_setSp _ _)) s

theorem keeps_opNopRead (op : Byte) (o : Source) (s : State) : Keeps s (opNopRead op o s) :=
  keeps_withSource _ _ _ (fun _ t => Keeps.refl t) s

theorem keeps_opSta (op : Byte) (m : MemOperand) (s : State) : Keeps s (opSta op m s) := keeps_storeAt _ _ _ s

theorem keeps_opStx (op : Byte) (m : MemOperand) (s : State) : Keeps s (opStx op m s) := keeps_storeAt _ _ _ s

theorem keeps_opSty (op : Byte) (m : MemOperand) (s : State) : Keeps s (opSty op m s) := keeps_storeAt _ _ _ s

theorem keeps_opSax (op : Byte) (m : MemOperand) (s : State) : Keeps s (opSax op m s) := keeps_storeAt _ _ _ s

theorem keeps_opInc (op : Byte) (m : MemOperand) (s : State) : Keeps s (opInc op m s) :=
  keeps_modifyAt _ _ _ _ (fun _ t => Keeps.refl t) s

theorem keeps_opDec (op : Byte) (m : MemOperand) (s : State) : Keeps s (opDec op m s) :=
  keeps_modifyAt _ _ _ _ (fun _ t => Keeps.refl t) s

theorem keeps_opAsl (op : Byte) (m : MemOperand) (s : State) : Keeps s (opAsl op m s) :=
  keeps_modifyAt _ _ _ _ (fun _ t => Keeps.refl t) s

theorem keeps_opLsr (op : Byte) (m : MemOperand) (s : State) : Keeps s (opLsr op m s) :=
  keeps_modifyAt _ _ _ _ (fun _ t => Keeps.refl t) s

theorem keeps_opRol (op : Byte) (m : MemOperand) (s : State) : Keeps s (opRol op m s) :=
  keeps_modifyAt _ _ _ _ (fun _ t => Keeps.refl t) s

theorem keeps_opRor (op : Byte) (m : MemOperand) (s : State) : Keeps s (opRor op m s) :=
  keeps_modifyAt _ _ _ _ (fun _ t => Keeps.refl t) s

theorem keeps_opDcp (op : Byte) (m : MemOperand) (s : State) : Keeps s (opDcp op m s) :=
  keeps_modifyAt _ _ _ _ (fun _ _ => keeps_setFlags _ _) s

theorem keeps_opIsb (op : Byte) (m : MemOperand) (s : State) : Keeps s (opIsb op m s) :=
  keeps_modifyAt _ _ _ _ (fun _ _ => keeps_setAFlags _ _) s

theorem keeps_opSlo (op : Byte) (m : MemOperand) (s : State) : Keeps s (opSlo op m s) :=
  keeps_modifyAt _ _ _ _ (fun _ _ => keeps_setAFlags _ _) s

theorem keeps_opRla (op : Byte) (m : MemOperand) (s : State) : Keeps s (opRla op m s) :=
  keeps_modifyAt _ _ _ _ (fun _ _ => keeps_setAFlags _ _) s

theorem keeps_opSre (op : Byte) (m : MemOperand) (s : State) : Keeps s (opSre op m s) :=
  keeps_modifyAt _ _ _ _ (fun _ _ => keeps_setAFlags _ _) s

theorem keeps_opRra (op : Byte) (m : MemOperand) (s : State) : Keeps s (opRra op m s) :=
  keeps_modifyAt _ _ _ _ (fun _ _ => keeps_setAFlags _ _) s

/-- What any instruction answers. -/
theorem exec_effect : ∀ (i : Instr) (s : State), ∃ t, exec i s = .next t ∧ Effect i s t
  | .brk, s => ⟨_, rfl, .completed rfl ((keeps_enterException _ _ _ s).trans (keeps_setCycles _ _))⟩
  | .oraIzx _, s | .oraZp _, s | .oraImm _, s | .oraAbs _, s | .oraIzy _, s | .oraZpx _, s | .oraAbsy _, s
  | .oraAbsx _, s => ⟨_, rfl, .completed rfl (keeps_opOra _ _ s)⟩
  | .jam02, _ | .jam12, _ | .jam22, _ | .jam32, _ | .jam42, _ | .jam52, _ | .jam62, _ | .jam72, _ | .jam92, _
  | .jamB2, _ | .jamD2, _ | .jamF2, _ => ⟨_, rfl, .halted rfl rfl⟩
  | .sloIzx _, s | .sloZp _, s | .sloAbs _, s | .sloIzy _, s | .sloZpx _, s | .sloAbsy _, s | .sloAbsx _, s
    => ⟨_, rfl, .completed rfl (keeps_opSlo _ _ s)⟩
  | .nopZp04 _, s | .nopAbs _, s | .nopZpx14 _, s | .nopAbsx1C _, s | .nopZpx34 _, s | .nopAbsx3C _, s
  | .nopZp44 _, s | .nopZpx54 _, s | .nopAbsx5C _, s | .nopZp64 _, s | .nopZpx74 _, s | .nopAbsx7C _, s
  | .nopImm80 _, s | .nopImm82 _, s | .nopImm89 _, s | .nopImmC2 _, s | .nopZpxD4 _, s | .nopAbsxDC _, s
  | .nopImmE2 _, s | .nopZpxF4 _, s | .nopAbsxFC _, s => ⟨_, rfl, .completed rfl (keeps_opNopRead _ _ s)⟩
  | .nop1A, s | .nop3A, s | .nop5A, s | .nop7A, s | .nopDA, s | .nop, s | .nopFA, s
    => ⟨_, rfl, .completed rfl (keeps_complete _ _ s)⟩
  | .aslZp _, s | .aslAbs _, s | .aslZpx _, s | .aslAbsx _, s => ⟨_, rfl, .completed rfl (keeps_opAsl _ _ s)⟩
  | .aslAcc, s => ⟨_, rfl, .completed rfl (keeps_shiftA _ _ s)⟩
  | .php, s => ⟨_, rfl, .completed rfl ((keeps_push _ s).trans (keeps_complete _ _ _))⟩
  | .ancImm0B _, s | .ancImm2B _, s
    => ⟨_, rfl, effect_whenExtra rfl (fun _ => rfl) _
      (fun t => (keeps_setAFlags _ t).trans (keeps_complete _ _ _)) s⟩
  | .bpl _, s => ⟨_, rfl, .completed rfl (keeps_branch _ _ _ s)⟩
  | .clc, s => ⟨_, rfl, .completed rfl ((keeps_setFlags _ s).trans (keeps_complete _ _ _))⟩
  | .jsr _, s => ⟨_, rfl, .completed rfl ((keeps_push16 _ s).trans (keeps_completeAt _ _ _))⟩
  | .andIzx _, s | .andZp _, s | .andImm _, s | .andAbs _, s | .andIzy _, s | .andZpx _, s | .andAbsy _, s
  | .andAbsx _, s => ⟨_, rfl, .completed rfl (keeps_opAnd _ _ s)⟩
  | .rlaIzx _, s | .rlaZp _, s | .rlaAbs _, s | .rlaIzy _, s | .rlaZpx _, s | .rlaAbsy _, s | .rlaAbsx _, s
    => ⟨_, rfl, .completed rfl (keeps_opRla _ _ s)⟩
  | .bitZp _, s | .bitAbs _, s => ⟨_, rfl, .completed rfl (keeps_opBit _ _ s)⟩
  | .rolZp _, s | .rolAbs _, s | .rolZpx _, s | .rolAbsx _, s => ⟨_, rfl, .completed rfl (keeps_opRol _ _ s)⟩
  | .rolAcc, s => ⟨_, rfl, .completed rfl (keeps_shiftA _ _ s)⟩
  | .plp, s => ⟨_, rfl, .completed rfl (((keeps_pull s).trans (keeps_setFlags _ _)).trans (keeps_complete _ _ _))⟩
  | .bmi _, s => ⟨_, rfl, .completed rfl (keeps_branch _ _ _ s)⟩
  | .sec, s => ⟨_, rfl, .completed rfl ((keeps_setFlags _ s).trans (keeps_complete _ _ _))⟩
  | .rti, s => ⟨_, rfl, .completed rfl ((keeps_returnFromException s).trans (keeps_setCycles _ _))⟩
  | .eorIzx _, s | .eorZp _, s | .eorImm _, s | .eorAbs _, s | .eorIzy _, s | .eorZpx _, s | .eorAbsy _, s
  | .eorAbsx _, s => ⟨_, rfl, .completed rfl (keeps_opEor _ _ s)⟩
  | .sreIzx _, s | .sreZp _, s | .sreAbs _, s | .sreIzy _, s | .sreZpx _, s | .sreAbsy _, s | .sreAbsx _, s
    => ⟨_, rfl, .completed rfl (keeps_opSre _ _ s)⟩
  | .lsrZp _, s | .lsrAbs _, s | .lsrZpx _, s | .lsrAbsx _, s => ⟨_, rfl, .completed rfl (keeps_opLsr _ _ s)⟩
  | .lsrAcc, s => ⟨_, rfl, .completed rfl (keeps_shiftA _ _ s)⟩
  | .pha, s => ⟨_, rfl, .completed rfl ((keeps_push _ s).trans (keeps_complete _ _ _))⟩
  | .alrImm _, s => ⟨_, rfl, effect_whenExtra rfl (fun _ => rfl) _
      (fun t => (keeps_setAFlags _ t).trans (keeps_complete _ _ _)) s⟩
  | .jmpAbs _, s => ⟨_, rfl, .completed rfl (keeps_completeAt _ _ s)⟩
  | .jmpInd _, s => ⟨_, rfl, .completed rfl ((keeps_cpuReadPageWrappedWord _ s).trans (keeps_completeAt _ _ _))⟩
  | .bvc _, s => ⟨_, rfl, .completed rfl (keeps_branch _ _ _ s)⟩
  | .cli, s => ⟨_, rfl, .completed rfl ((keeps_setFlags _ s).trans (keeps_complete _ _ _))⟩
  | .rts, s => ⟨_, rfl, .completed rfl ((keeps_pull16 s).trans (keeps_completeAt _ _ _))⟩
  | .adcIzx _, s | .adcZp _, s | .adcImm _, s | .adcAbs _, s | .adcIzy _, s | .adcZpx _, s | .adcAbsy _, s
  | .adcAbsx _, s => ⟨_, rfl, .completed rfl (keeps_opAdc _ _ s)⟩
  | .rraIzx _, s | .rraZp _, s | .rraAbs _, s | .rraIzy _, s | .rraZpx _, s | .rraAbsy _, s | .rraAbsx _, s
    => ⟨_, rfl, .completed rfl (keeps_opRra _ _ s)⟩
  | .rorZp _, s | .rorAbs _, s | .rorZpx _, s | .rorAbsx _, s => ⟨_, rfl, .completed rfl (keeps_opRor _ _ s)⟩
  | .rorAcc, s => ⟨_, rfl, .completed rfl (keeps_shiftA _ _ s)⟩
  | .pla, s => ⟨_, rfl, .completed rfl (((keeps_pull s).trans (keeps_setAFlags _ _)).trans (keeps_complete _ _ _))⟩
  | .arrImm _, s => ⟨_, rfl, effect_whenExtra rfl (fun _ => rfl) _
      (fun t => (keeps_setAFlags _ t).trans (keeps_complete _ _ _)) s⟩
  | .bvs _, s => ⟨_, rfl, .completed rfl (keeps_branch _ _ _ s)⟩
  | .sei, s => ⟨_, rfl, .completed rfl ((keeps_setFlags _ s).trans (keeps_complete _ _ _))⟩
  | .staIzx _, s | .staZp _, s | .staAbs _, s | .staIzy _, s | .staZpx _, s | .staAbsy _, s | .staAbsx _, s
    => ⟨_, rfl, .completed rfl (keeps_opSta _ _ s)⟩
  | .saxIzx _, s | .saxZp _, s | .saxAbs _, s | .saxZpy _, s => ⟨_, rfl, .completed rfl (keeps_opSax _ _ s)⟩
  | .styZp _, s | .styAbs _, s | .styZpx _, s => ⟨_, rfl, .completed rfl (keeps_opSty _ _ s)⟩
  | .stxZp _, s | .stxAbs _, s | .stxZpy _, s => ⟨_, rfl, .completed rfl (keeps_opStx _ _ s)⟩
  | .dey, s => ⟨_, rfl, .completed rfl ((keeps_setYFlags _ s).trans (keeps_complete _ _ _))⟩
  | .txa, s => ⟨_, rfl, .completed rfl ((keeps_setAFlags _ s).trans (keeps_complete _ _ _))⟩
  | .ane, _ => ⟨_, rfl, .halted rfl rfl⟩
  | .bcc _, s => ⟨_, rfl, .completed rfl (keeps_branch _ _ _ s)⟩
  | .sha93, _ | .sha9F, _ => ⟨_, rfl, .halted rfl rfl⟩
  | .tya, s => ⟨_, rfl, .completed rfl ((keeps_setAFlags _ s).trans (keeps_complete _ _ _))⟩
  | .txs, s => ⟨_, rfl, .completed rfl ((keeps_setSp _ s).trans (keeps_complete _ _ _))⟩
  | .tas, _ => ⟨_, rfl, .halted rfl rfl⟩
  | .shy, _ => ⟨_, rfl, .halted rfl rfl⟩
  | .shx, _ => ⟨_, rfl, .halted rfl rfl⟩
  | .ldyImm _, s | .ldyZp _, s | .ldyAbs _, s | .ldyZpx _, s | .ldyAbsx _, s
    => ⟨_, rfl, .completed rfl (keeps_opLdy _ _ s)⟩
  | .ldaIzx _, s | .ldaZp _, s | .ldaImm _, s | .ldaAbs _, s | .ldaIzy _, s | .ldaZpx _, s | .ldaAbsy _, s
  | .ldaAbsx _, s => ⟨_, rfl, .completed rfl (keeps_opLda _ _ s)⟩
  | .ldxImm _, s | .ldxZp _, s | .ldxAbs _, s | .ldxZpy _, s | .ldxAbsy _, s
    => ⟨_, rfl, .completed rfl (keeps_opLdx _ _ s)⟩
  | .laxIzx _, s | .laxZp _, s | .laxAbs _, s | .laxIzy _, s | .laxZpy _, s | .laxAbsy _, s
    => ⟨_, rfl, .completed rfl (keeps_opLax _ _ s)⟩
  | .tay, s => ⟨_, rfl, .completed rfl ((keeps_setYFlags _ s).trans (keeps_complete _ _ _))⟩
  | .tax, s => ⟨_, rfl, .completed rfl ((keeps_setXFlags _ s).trans (keeps_complete _ _ _))⟩
  | .lxa, _ => ⟨_, rfl, .halted rfl rfl⟩
  | .bcs _, s => ⟨_, rfl, .completed rfl (keeps_branch _ _ _ s)⟩
  | .clv, s => ⟨_, rfl, .completed rfl ((keeps_setFlags _ s).trans (keeps_complete _ _ _))⟩
  | .tsx, s => ⟨_, rfl, .completed rfl ((keeps_setXFlags _ s).trans (keeps_complete _ _ _))⟩
  | .lasAbsy _, s => ⟨_, rfl, effect_whenExtra rfl (fun _ => rfl) _
      (fun t => keeps_opLas _ _ t) s⟩
  | .cpyImm _, s | .cpyZp _, s | .cpyAbs _, s => ⟨_, rfl, .completed rfl (keeps_opCpy _ _ s)⟩
  | .cmpIzx _, s | .cmpZp _, s | .cmpImm _, s | .cmpAbs _, s | .cmpIzy _, s | .cmpZpx _, s | .cmpAbsy _, s
  | .cmpAbsx _, s => ⟨_, rfl, .completed rfl (keeps_opCmp _ _ s)⟩
  | .dcpIzx _, s | .dcpZp _, s | .dcpAbs _, s | .dcpIzy _, s | .dcpZpx _, s | .dcpAbsy _, s | .dcpAbsx _, s
    => ⟨_, rfl, .completed rfl (keeps_opDcp _ _ s)⟩
  | .decZp _, s | .decAbs _, s | .decZpx _, s | .decAbsx _, s => ⟨_, rfl, .completed rfl (keeps_opDec _ _ s)⟩
  | .iny, s => ⟨_, rfl, .completed rfl ((keeps_setYFlags _ s).trans (keeps_complete _ _ _))⟩
  | .dex, s => ⟨_, rfl, .completed rfl ((keeps_setXFlags _ s).trans (keeps_complete _ _ _))⟩
  | .sbxImm _, s => ⟨_, rfl, effect_whenExtra rfl (fun _ => rfl) _
      (fun t => (keeps_setXFlags _ t).trans (keeps_complete _ _ _)) s⟩
  | .bne _, s => ⟨_, rfl, .completed rfl (keeps_branch _ _ _ s)⟩
  | .cld, s => ⟨_, rfl, .completed rfl ((keeps_setFlags _ s).trans (keeps_complete _ _ _))⟩
  | .cpxImm _, s | .cpxZp _, s | .cpxAbs _, s => ⟨_, rfl, .completed rfl (keeps_opCpx _ _ s)⟩
  | .sbcIzx _, s | .sbcZp _, s | .sbcImm _, s | .sbcImmEB _, s | .sbcAbs _, s | .sbcIzy _, s | .sbcZpx _, s
  | .sbcAbsy _, s | .sbcAbsx _, s => ⟨_, rfl, .completed rfl (keeps_opSbc _ _ s)⟩
  | .isbIzx _, s | .isbZp _, s | .isbAbs _, s | .isbIzy _, s | .isbZpx _, s | .isbAbsy _, s | .isbAbsx _, s
    => ⟨_, rfl, .completed rfl (keeps_opIsb _ _ s)⟩
  | .incZp _, s | .incAbs _, s | .incZpx _, s | .incAbsx _, s => ⟨_, rfl, .completed rfl (keeps_opInc _ _ s)⟩
  | .inx, s => ⟨_, rfl, .completed rfl ((keeps_setXFlags _ s).trans (keeps_complete _ _ _))⟩
  | .beq _, s => ⟨_, rfl, .completed rfl (keeps_branch _ _ _ s)⟩
  | .sed, s => ⟨_, rfl, .completed rfl ((keeps_setFlags _ s).trans (keeps_complete _ _ _))⟩

/-- The fetch keeps everything of `Keeps` and every register. -/
theorem fetchInstr_keeps (s : State) : Keeps s (fetchInstr s).2 ∧ ReadsOnly s (fetchInstr s).2 := by
  unfold fetchInstr
  simp only
  split
  · exact ⟨keeps_cpuRead _ s, cpuRead_readsOnly _ s⟩
  · split
    · exact ⟨keeps_cpuRead _ s, cpuRead_readsOnly _ s⟩
    · exact ⟨(keeps_cpuRead _ s).trans (keeps_cpuRead _ _), (cpuRead_readsOnly _ s).trans (cpuRead_readsOnly _ _)⟩
    · exact ⟨((keeps_cpuRead _ s).trans (keeps_cpuRead _ _)).trans (keeps_cpuRead _ _),
        ((cpuRead_readsOnly _ s).trans (cpuRead_readsOnly _ _)).trans (cpuRead_readsOnly _ _)⟩

end Sys2Proof.Machine
end

