-- ==== Sys2Proof/Laws/Independent.lean ====
section
/-! SUPPORT. What a bus access does not look at: the CPU's registers, the pause flag, the debug
configuration, the fault records, the cycle count of the step and its trace. So an access commutes with changing them. -/

namespace Sys2Proof.Machine

/-- `s` with everything the Bus does not look at taken from `o`. -/
def State.withCore (o s : State) : State :=
  { s with cpu := o.cpu, paused := o.paused, debugCfg := o.debugCfg, faults := o.faults,
           stepCycles := o.stepCycles, trace := o.trace }

theorem busRead_withCore (a : Word) (o s : State) :
    busRead a (o.withCore s) = ((busRead a s).1, o.withCore (busRead a s).2) := by
  simp only [busRead, State.withCore]
  cases s.readSlot[blockOf a]
  case ppu => cases PpuReg.ofAddr a <;> rfl
  all_goals rfl

theorem ppuWrite_withCore (reg : PpuReg) (d : Byte) (o s : State) :
    ppuWrite reg d (o.withCore s) = o.withCore (ppuWrite reg d s) := by
  cases reg
  case ctrl =>
    cases h : s.nmiPending <;> simp only [ppuWrite, requestNmi, State.withCore, h] <;> split <;> rfl
  all_goals rfl

theorem oamDmaByte_withCore (d : Byte) (o s : State) (i : Nat) :
    oamDmaByte d (o.withCore s) i = o.withCore (oamDmaByte d s i) := by
  simp only [oamDmaByte, busRead_withCore]
  rfl

theorem oamDma_fold_withCore (d : Byte) (o : State) (l : List Nat) :
    ∀ s, l.foldl (oamDmaByte d) (o.withCore s) = o.withCore (l.foldl (oamDmaByte d) s) := by
  induction l with
  | nil => intro s; rfl
  | cons i l ih => intro s; simp only [List.foldl_cons, oamDmaByte_withCore, ih]

theorem mapperCall_withCore (o s : State) (c : MapperCall) :
    mapperCall (o.withCore s) c = o.withCore (mapperCall s c) := by
  cases c
  case install i => cases i <;> rfl
  all_goals rfl

theorem mapperInput_withCore (e : MapperInput) (o s : State) :
    mapperInput e (o.withCore s) = o.withCore (mapperInput e s) := by
  have key : ∀ (l : List MapperCall) (s : State), l.foldl mapperCall (o.withCore s) = o.withCore (l.foldl mapperCall s) := by
    intro l
    induction l with
    | nil => intro s; rfl
    | cons c l ih => intro s; simp only [List.foldl_cons, mapperCall_withCore, ih]
  unfold mapperInput
  rw [show (o.withCore s).mapper = s.mapper from rfl]
  split
  · rfl
  · rfl
  · rename_i windows installs inputs _
    exact key (Config.mapperCalls (inputs ++ [e])) { s with mapper := .contract windows installs (inputs ++ [e]) }

theorem mapperWrite_withCore (a : Word) (v : Byte) (o s : State) :
    mapperWrite a v (o.withCore s) = o.withCore (mapperWrite a v s) := by
  unfold mapperWrite
  rw [show (o.withCore s).mapper = s.mapper from rfl]
  split
  · rfl
  · rfl
  · exact mapperInput_withCore _ o s

theorem busWrite_withCore (a : Word) (v : Byte) (o s : State) :
    busWrite a v (o.withCore s) = o.withCore (busWrite a v s) := by
  have hs : (o.withCore s).writeSlot = s.writeSlot := rfl
  simp only [busWrite, hs]
  cases s.writeSlot[blockOf a]
  case ppu => exact ppuWrite_withCore _ v o s
  case apuIo =>
    dsimp only
    split
    · unfold oamDma
      rw [oamDma_fold_withCore]
      generalize List.foldl (oamDmaByte v) s (List.range 256) = u
      rfl
    · rfl
  case cartridge => exact mapperWrite_withCore a v o s
  case mapperDevice => exact mapperInput_withCore _ o (deviceWrite a v s)
  all_goals rfl

/-- A read does not look at the CPU's registers. -/
theorem busRead_withCpu (a : Word) (c : Cpu) (s : State) :
    busRead a { s with cpu := c } = ((busRead a s).1, { (busRead a s).2 with cpu := c }) := by
  have h := busRead_withCore a { s with cpu := c } s
  have r := busRead_readsOnly a s
  have e : ({ s with cpu := c } : State).withCore s = { s with cpu := c } := rfl
  rw [e] at h
  rw [h]
  simp only [State.withCore, r.paused, r.debugCfg, r.faults, r.stepCycles, busRead_trace]

/-- A write does not look at the CPU's registers. -/
theorem busWrite_withCpu (a : Word) (v : Byte) (c : Cpu) (s : State) :
    busWrite a v { s with cpu := c } = { busWrite a v s with cpu := c } := by
  have h := busWrite_withCore a v { s with cpu := c } s
  have e : ({ s with cpu := c } : State).withCore s = { s with cpu := c } := rfl
  rw [e] at h
  rw [h]
  simp only [State.withCore, busWrite_paused, busWrite_debug, busWrite_faults, busWrite_stepCycles,
    busWrite_trace]

end Sys2Proof.Machine
end

