-- ==== Sys2Proof/Laws/PerInstr.lean ====
section
/-! SUPPORT. The family `Table`: what the instruction table says of an instruction's opcode agrees with the instruction: its
mnemonic, the form of its operand bytes, and whether it is an unknown marker. One lemma per constructor. -/

namespace Sys2Proof.Laws.Table

/-- The form makes the instruction from its operand bytes, and every instruction it makes has the opcode and the bytes. -/
def Gives (op : Byte) (i : Instr) : Form → Prop
  | .bare j => j = i ∧ i.operand.bytes = []
  | .byte f => (∃ b, f b = i) ∧ ∀ b, (f b).opcode = op ∧ (f b).operand.bytes = [b]
  | .word f => (∃ w, f w = i) ∧ ∀ w, (f w).opcode = op ∧ (f w).operand.bytes = [loByte w, hiByte w]

/-- The entry of the instruction's opcode is the instruction's own (R11, R151, R169, R170). -/
def Statement (i : Instr) : Prop :=
  (entryOf i.opcode).kind = i.kind ∧ Gives i.opcode i (entryOf i.opcode).form ∧
    ∀ extra : Bool, (entryOf i.opcode).isMarker extra = !i.wellFormed extra

theorem bare {i : Instr} (op : Byte) (ho : i.opcode = op) (hf : (entryOf op).form = .bare i)
    (hb : i.operand.bytes = []) (hk : (entryOf op).kind = i.kind)
    (hm : (entryOf op).isMarker true = !i.wellFormed true) (hm' : (entryOf op).isMarker false = !i.wellFormed false) :
    Statement i := by
  subst ho
  exact ⟨hk, by rw [hf]; exact ⟨rfl, hb⟩, fun extra => by cases extra <;> assumption⟩

theorem byte {f : Byte → Instr} {b : Byte} (op : Byte) (ho : (f b).opcode = op) (hf : (entryOf op).form = .byte f)
    (hb : ∀ b, (f b).opcode = op ∧ (f b).operand.bytes = [b]) (hk : (entryOf op).kind = (f b).kind)
    (hm : (entryOf op).isMarker true = !(f b).wellFormed true)
    (hm' : (entryOf op).isMarker false = !(f b).wellFormed false) : Statement (f b) := by
  subst ho
  exact ⟨hk, by rw [hf]; exact ⟨⟨b, rfl⟩, hb⟩, fun extra => by cases extra <;> assumption⟩

theorem word {f : Word → Instr} {w : Word} (op : Byte) (ho : (f w).opcode = op) (hf : (entryOf op).form = .word f)
    (hb : ∀ w, (f w).opcode = op ∧ (f w).operand.bytes = [loByte w, hiByte w]) (hk : (entryOf op).kind = (f w).kind)
    (hm : (entryOf op).isMarker true = !(f w).wellFormed true)
    (hm' : (entryOf op).isMarker false = !(f w).wellFormed false) : Statement (f w) := by
  subst ho
  exact ⟨hk, by rw [hf]; exact ⟨⟨w, rfl⟩, hb⟩, fun extra => by cases extra <;> assumption⟩

theorem brk : Statement .brk := bare 0x00#8 rfl rfl rfl rfl rfl rfl
theorem oraIzx (z : Byte) : Statement (.oraIzx z) :=
  byte (f := .oraIzx) 0x01#8 rfl rfl (fun _ => ⟨rfl, rfl⟩) rfl rfl rfl
theorem jam02 : Statement .jam02 := bare 0x02#8 rfl rfl rfl rfl rfl rfl
theorem sloIzx (z : Byte) : Statement (.sloIzx z) :=
  byte (f := .sloIzx) 0x03#8 rfl rfl (fun _ => ⟨rfl, rfl⟩) rfl rfl rfl
theorem nopZp04 (z : Byte) : Statement (.nopZp04 z) :=
  byte (f := .nopZp04) 0x04#8 rfl rfl (fun _ => ⟨rfl, rfl⟩) rfl rfl rfl
theorem oraZp (z : Byte) : Statement (.oraZp z) :=
  byte (f := .oraZp) 0x05#8 rfl rfl (fun _ => ⟨rfl, rfl⟩) rfl rfl rfl
theorem aslZp (z : Byte) : Statement (.aslZp z) :=
  byte (f := .aslZp) 0x06#8 rfl rfl (fun _ => ⟨rfl, rfl⟩) rfl rfl rfl
theorem sloZp (z : Byte) : Statement (.sloZp z) :=
  byte (f := .sloZp) 0x07#8 rfl rfl (fun _ => ⟨rfl, rfl⟩) rfl rfl rfl
theorem php : Statement .php := bare 0x08#8 rfl rfl rfl rfl rfl rfl
theorem oraImm (b : Byte) : Statement (.oraImm b) :=
  byte (f := .oraImm) 0x09#8 rfl rfl (fun _ => ⟨rfl, rfl⟩) rfl rfl rfl
theorem aslAcc : Statement .aslAcc := bare 0x0A#8 rfl rfl rfl rfl rfl rfl
theorem ancImm0B (b : Byte) : Statement (.ancImm0B b) :=
  byte (f := .ancImm0B) 0x0B#8 rfl rfl (fun _ => ⟨rfl, rfl⟩) rfl rfl rfl
theorem nopAbs (w : Word) : Statement (.nopAbs w) :=
  word (f := .nopAbs) 0x0C#8 rfl rfl (fun _ => ⟨rfl, rfl⟩) rfl rfl rfl
theorem oraAbs (w : Word) : Statement (.oraAbs w) :=
  word (f := .oraAbs) 0x0D#8 rfl rfl (fun _ => ⟨rfl, rfl⟩) rfl rfl rfl
theorem aslAbs (w : Word) : Statement (.aslAbs w) :=
  word (f := .aslAbs) 0x0E#8 rfl rfl (fun _ => ⟨rfl, rfl⟩) rfl rfl rfl
theorem sloAbs (w : Word) : Statement (.sloAbs w) :=
  word (f := .sloAbs) 0x0F#8 rfl rfl (fun _ => ⟨rfl, rfl⟩) rfl rfl rfl
theorem bpl (r : Byte) : Statement (.bpl r) :=
  byte (f := .bpl) 0x10#8 rfl rfl (fun _ => ⟨rfl, rfl⟩) rfl rfl rfl
theorem oraIzy (z : Byte) : Statement (.oraIzy z) :=
  byte (f := .oraIzy) 0x11#8 rfl rfl (fun _ => ⟨rfl, rfl⟩) rfl rfl rfl
theorem jam12 : Statement .jam12 := bare 0x12#8 rfl rfl rfl rfl rfl rfl
theorem sloIzy (z : Byte) : Statement (.sloIzy z) :=
  byte (f := .sloIzy) 0x13#8 rfl rfl (fun _ => ⟨rfl, rfl⟩) rfl rfl rfl
theorem nopZpx14 (z : Byte) : Statement (.nopZpx14 z) :=
  byte (f := .nopZpx14) 0x14#8 rfl rfl (fun _ => ⟨rfl, rfl⟩) rfl rfl rfl
theorem oraZpx (z : Byte) : Statement (.oraZpx z) :=
  byte (f := .oraZpx) 0x15#8 rfl rfl (fun _ => ⟨rfl, rfl⟩) rfl rfl rfl
theorem aslZpx (z : Byte) : Statement (.aslZpx z) :=
  byte (f := .aslZpx) 0x16#8 rfl rfl (fun _ => ⟨rfl, rfl⟩) rfl rfl rfl
theorem sloZpx (z : Byte) : Statement (.sloZpx z) :=
  byte (f := .sloZpx) 0x17#8 rfl rfl (fun _ => ⟨rfl, rfl⟩) rfl rfl rfl
theorem clc : Statement .clc := bare 0x18#8 rfl rfl rfl rfl rfl rfl
theorem oraAbsy (w : Word) : Statement (.oraAbsy w) :=
  word (f := .oraAbsy) 0x19#8 rfl rfl (fun _ => ⟨rfl, rfl⟩) rfl rfl rfl
theorem nop1A : Statement .nop1A := bare 0x1A#8 rfl rfl rfl rfl rfl rfl
theorem sloAbsy (w : Word) : Statement (.sloAbsy w) :=
  word (f := .sloAbsy) 0x1B#8 rfl rfl (fun _ => ⟨rfl, rfl⟩) rfl rfl rfl
theorem nopAbsx1C (w : Word) : Statement (.nopAbsx1C w) :=
  word (f := .nopAbsx1C) 0x1C#8 rfl rfl (fun _ => ⟨rfl, rfl⟩) rfl rfl rfl
theorem oraAbsx (w : Word) : Statement (.oraAbsx w) :=
  word (f := .oraAbsx) 0x1D#8 rfl rfl (fun _ => ⟨rfl, rfl⟩) rfl rfl rfl
theorem aslAbsx (w : Word) : Statement (.aslAbsx w) :=
  word (f := .aslAbsx) 0x1E#8 rfl rfl (fun _ => ⟨rfl, rfl⟩) rfl rfl rfl
theorem sloAbsx (w : Word) : Statement (.sloAbsx w) :=
  word (f := .sloAbsx) 0x1F#8 rfl rfl (fun _ => ⟨rfl, rfl⟩) rfl rfl rfl
theorem jsr (w : Word) : Statement (.jsr w) :=
  word (f := .jsr) 0x20#8 rfl rfl (fun _ => ⟨rfl, rfl⟩) rfl rfl rfl
theorem andIzx (z : Byte) : Statement (.andIzx z) :=
  byte (f := .andIzx) 0x21#8 rfl rfl (fun _ => ⟨rfl, rfl⟩) rfl rfl rfl
theorem jam22 : Statement .jam22 := bare 0x22#8 rfl rfl rfl rfl rfl rfl
theorem rlaIzx (z : Byte) : Statement (.rlaIzx z) :=
  byte (f := .rlaIzx) 0x23#8 rfl rfl (fun _ => ⟨rfl, rfl⟩) rfl rfl rfl
theorem bitZp (z : Byte) : Statement (.bitZp z) :=
  byte (f := .bitZp) 0x24#8 rfl rfl (fun _ => ⟨rfl, rfl⟩) rfl rfl rfl
theorem andZp (z : Byte) : Statement (.andZp z) :=
  byte (f := .andZp) 0x25#8 rfl rfl (fun _ => ⟨rfl, rfl⟩) rfl rfl rfl
theorem rolZp (z : Byte) : Statement (.rolZp z) :=
  byte (f := .rolZp) 0x26#8 rfl rfl (fun _ => ⟨rfl, rfl⟩) rfl rfl rfl
theorem rlaZp (z : Byte) : Statement (.rlaZp z) :=
  byte (f := .rlaZp) 0x27#8 rfl rfl (fun _ => ⟨rfl, rfl⟩) rfl rfl rfl
theorem plp : Statement .plp := bare 0x28#8 rfl rfl rfl rfl rfl rfl
theorem andImm (b : Byte) : Statement (.andImm b) :=
  byte (f := .andImm) 0x29#8 rfl rfl (fun _ => ⟨rfl, rfl⟩) rfl rfl rfl
theorem rolAcc : Statement .rolAcc := bare 0x2A#8 rfl rfl rfl rfl rfl rfl
theorem ancImm2B (b : Byte) : Statement (.ancImm2B b) :=
  byte (f := .ancImm2B) 0x2B#8 rfl rfl (fun _ => ⟨rfl, rfl⟩) rfl rfl rfl
theorem bitAbs (w : Word) : Statement (.bitAbs w) :=
  word (f := .bitAbs) 0x2C#8 rfl rfl (fun _ => ⟨rfl, rfl⟩) rfl rfl rfl
theorem andAbs (w : Word) : Statement (.andAbs w) :=
  word (f := .andAbs) 0x2D#8 rfl rfl (fun _ => ⟨rfl, rfl⟩) rfl rfl rfl
theorem rolAbs (w : Word) : Statement (.rolAbs w) :=
  word (f := .rolAbs) 0x2E#8 rfl rfl (fun _ => ⟨rfl, rfl⟩) rfl rfl rfl
theorem rlaAbs (w : Word) : Statement (.rlaAbs w) :=
  word (f := .rlaAbs) 0x2F#8 rfl rfl (fun _ => ⟨rfl, rfl⟩) rfl rfl rfl
theorem bmi (r : Byte) : Statement (.bmi r) :=
  byte (f := .bmi) 0x30#8 rfl rfl (fun _ => ⟨rfl, rfl⟩) rfl rfl rfl
theorem andIzy (z : Byte) : Statement (.andIzy z) :=
  byte (f := .andIzy) 0x31#8 rfl rfl (fun _ => ⟨rfl, rfl⟩) rfl rfl rfl
theorem jam32 : Statement .jam32 := bare 0x32#8 rfl rfl rfl rfl rfl rfl
theorem rlaIzy (z : Byte) : Statement (.rlaIzy z) :=
  byte (f := .rlaIzy) 0x33#8 rfl rfl (fun _ => ⟨rfl, rfl⟩) rfl rfl rfl
theorem nopZpx34 (z : Byte) : Statement (.nopZpx34 z) :=
  byte (f := .nopZpx34) 0x34#8 rfl rfl (fun _ => ⟨rfl, rfl⟩) rfl rfl rfl
theorem andZpx (z : Byte) : Statement (.andZpx z) :=
  byte (f := .andZpx) 0x35#8 rfl rfl (fun _ => ⟨rfl, rfl⟩) rfl rfl rfl
theorem rolZpx (z : Byte) : Statement (.rolZpx z) :=
  byte (f := .rolZpx) 0x36#8 rfl rfl (fun _ => ⟨rfl, rfl⟩) rfl rfl rfl
theorem rlaZpx (z : Byte) : Statement (.rlaZpx z) :=
  byte (f := .rlaZpx) 0x37#8 rfl rfl (fun _ => ⟨rfl, rfl⟩) rfl rfl rfl
theorem sec : Statement .sec := bare 0x38#8 rfl rfl rfl rfl rfl rfl
theorem andAbsy (w : Word) : Statement (.andAbsy w) :=
  word (f := .andAbsy) 0x39#8 rfl rfl (fun _ => ⟨rfl, rfl⟩) rfl rfl rfl
theorem nop3A : Statement .nop3A := bare 0x3A#8 rfl rfl rfl rfl rfl rfl
theorem rlaAbsy (w : Word) : Statement (.rlaAbsy w) :=
  word (f := .rlaAbsy) 0x3B#8 rfl rfl (fun _ => ⟨rfl, rfl⟩) rfl rfl rfl
theorem nopAbsx3C (w : Word) : Statement (.nopAbsx3C w) :=
  word (f := .nopAbsx3C) 0x3C#8 rfl rfl (fun _ => ⟨rfl, rfl⟩) rfl rfl rfl
theorem andAbsx (w : Word) : Statement (.andAbsx w) :=
  word (f := .andAbsx) 0x3D#8 rfl rfl (fun _ => ⟨rfl, rfl⟩) rfl rfl rfl
theorem rolAbsx (w : Word) : Statement (.rolAbsx w) :=
  word (f := .rolAbsx) 0x3E#8 rfl rfl (fun _ => ⟨rfl, rfl⟩) rfl rfl rfl
theorem rlaAbsx (w : Word) : Statement (.rlaAbsx w) :=
  word (f := .rlaAbsx) 0x3F#8 rfl rfl (fun _ => ⟨rfl, rfl⟩) rfl rfl rfl
theorem rti : Statement .rti := bare 0x40#8 rfl rfl rfl rfl rfl rfl
theorem eorIzx (z : Byte) : Statement (.eorIzx z) :=
  byte (f := .eorIzx) 0x41#8 rfl rfl (fun _ => ⟨rfl, rfl⟩) rfl rfl rfl
theorem jam42 : Statement .jam42 := bare 0x42#8 rfl rfl rfl rfl rfl rfl
theorem sreIzx (z : Byte) : Statement (.sreIzx z) :=
  byte (f := .sreIzx) 0x43#8 rfl rfl (fun _ => ⟨rfl, rfl⟩) rfl rfl rfl
theorem nopZp44 (z : Byte) : Statement (.nopZp44 z) :=
  byte (f := .nopZp44) 0x44#8 rfl rfl (fun _ => ⟨rfl, rfl⟩) rfl rfl rfl
theorem eorZp (z : Byte) : Statement (.eorZp z) :=
  byte (f := .eorZp) 0x45#8 rfl rfl (fun _ => ⟨rfl, rfl⟩) rfl rfl rfl
theorem lsrZp (z : Byte) : Statement (.lsrZp z) :=
  byte (f := .lsrZp) 0x46#8 rfl rfl (fun _ => ⟨rfl, rfl⟩) rfl rfl rfl
theorem sreZp (z : Byte) : Statement (.sreZp z) :=
  byte (f := .sreZp) 0x47#8 rfl rfl (fun _ => ⟨rfl, rfl⟩) rfl rfl rfl
theorem pha : Statement .pha := bare 0x48#8 rfl rfl rfl rfl rfl rfl
theorem eorImm (b : Byte) : Statement (.eorImm b) :=
  byte (f := .eorImm) 0x49#8 rfl rfl (fun _ => ⟨rfl, rfl⟩) rfl rfl rfl
theorem lsrAcc : Statement .lsrAcc := bare 0x4A#8 rfl rfl rfl rfl rfl rfl
theorem alrImm (b : Byte) : Statement (.alrImm b) :=
  byte (f := .alrImm) 0x4B#8 rfl rfl (fun _ => ⟨rfl, rfl⟩) rfl rfl rfl
theorem jmpAbs (w : Word) : Statement (.jmpAbs w) :=
  word (f := .jmpAbs) 0x4C#8 rfl rfl (fun _ => ⟨rfl, rfl⟩) rfl rfl rfl
theorem eorAbs (w : Word) : Statement (.eorAbs w) :=
  word (f := .eorAbs) 0x4D#8 rfl rfl (fun _ => ⟨rfl, rfl⟩) rfl rfl rfl
theorem lsrAbs (w : Word) : Statement (.lsrAbs w) :=
  word (f := .lsrAbs) 0x4E#8 rfl rfl (fun _ => ⟨rfl, rfl⟩) rfl rfl rfl
theorem sreAbs (w : Word) : Statement (.sreAbs w) :=
  word (f := .sreAbs) 0x4F#8 rfl rfl (fun _ => ⟨rfl, rfl⟩) rfl rfl rfl
theorem bvc (r : Byte) : Statement (.bvc r) :=
  byte (f := .bvc) 0x50#8 rfl rfl (fun _ => ⟨rfl, rfl⟩) rfl rfl rfl
theorem eorIzy (z : Byte) : Statement (.eorIzy z) :=
  byte (f := .eorIzy) 0x51#8 rfl rfl (fun _ => ⟨rfl, rfl⟩) rfl rfl rfl
theorem jam52 : Statement .jam52 := bare 0x52#8 rfl rfl rfl rfl rfl rfl
theorem sreIzy (z : Byte) : Statement (.sreIzy z) :=
  byte (f := .sreIzy) 0x53#8 rfl rfl (fun _ => ⟨rfl, rfl⟩) rfl rfl rfl
theorem nopZpx54 (z : Byte) : Statement (.nopZpx54 z) :=
  byte (f := .nopZpx54) 0x54#8 rfl rfl (fun _ => ⟨rfl, rfl⟩) rfl rfl rfl
theorem eorZpx (z : Byte) : Statement (.eorZpx z) :=
  byte (f := .eorZpx) 0x55#8 rfl rfl (fun _ => ⟨rfl, rfl⟩) rfl rfl rfl
theorem lsrZpx (z : Byte) : Statement (.lsrZpx z) :=
  byte (f := .lsrZpx) 0x56#8 rfl rfl (fun _ => ⟨rfl, rfl⟩) rfl rfl rfl
theorem sreZpx (z : Byte) : Statement (.sreZpx z) :=
  byte (f := .sreZpx) 0x57#8 rfl rfl (fun _ => ⟨rfl, rfl⟩) rfl rfl rfl
theorem cli : Statement .cli := bare 0x58#8 rfl rfl rfl rfl rfl rfl
theorem eorAbsy (w : Word) : Statement (.eorAbsy w) :=
  word (f := .eorAbsy) 0x59#8 rfl rfl (fun _ => ⟨rfl, rfl⟩) rfl rfl rfl
theorem nop5A : Statement .nop5A := bare 0x5A#8 rfl rfl rfl rfl rfl rfl
theorem sreAbsy (w : Word) : Statement (.sreAbsy w) :=
  word (f := .sreAbsy) 0x5B#8 rfl rfl (fun _ => ⟨rfl, rfl⟩) rfl rfl rfl
theorem nopAbsx5C (w : Word) : Statement (.nopAbsx5C w) :=
  word (f := .nopAbsx5C) 0x5C#8 rfl rfl (fun _ => ⟨rfl, rfl⟩) rfl rfl rfl
theorem eorAbsx (w : Word) : Statement (.eorAbsx w) :=
  word (f := .eorAbsx) 0x5D#8 rfl rfl (fun _ => ⟨rfl, rfl⟩) rfl rfl rfl
theorem lsrAbsx (w : Word) : Statement (.lsrAbsx w) :=
  word (f := .lsrAbsx) 0x5E#8 rfl rfl (fun _ => ⟨rfl, rfl⟩) rfl rfl rfl
theorem sreAbsx (w : Word) : Statement (.sreAbsx w) :=
  word (f := .sreAbsx) 0x5F#8 rfl rfl (fun _ => ⟨rfl, rfl⟩) rfl rfl rfl
theorem rts : Statement .rts := bare 0x60#8 rfl rfl rfl rfl rfl rfl
theorem adcIzx (z : Byte) : Statement (.adcIzx z) :=
  byte (f := .adcIzx) 0x61#8 rfl rfl (fun _ => ⟨rfl, rfl⟩) rfl rfl rfl
theorem jam62 : Statement .jam62 := bare 0x62#8 rfl rfl rfl rfl rfl rfl
theorem rraIzx (z : Byte) : Statement (.rraIzx z) :=
  byte (f := .rraIzx) 0x63#8 rfl rfl (fun _ => ⟨rfl, rfl⟩) rfl rfl rfl
theorem nopZp64 (z : Byte) : Statement (.nopZp64 z) :=
  byte (f := .nopZp64) 0x64#8 rfl rfl (fun _ => ⟨rfl, rfl⟩) rfl rfl rfl
theorem adcZp (z : Byte) : Statement (.adcZp z) :=
  byte (f := .adcZp) 0x65#8 rfl rfl (fun _ => ⟨rfl, rfl⟩) rfl rfl rfl
theorem rorZp (z : Byte) : Statement (.rorZp z) :=
  byte (f := .rorZp) 0x66#8 rfl rfl (fun _ => ⟨rfl, rfl⟩) rfl rfl rfl
theorem rraZp (z : Byte) : Statement (.rraZp z) :=
  byte (f := .rraZp) 0x67#8 rfl rfl (fun _ => ⟨rfl, rfl⟩) rfl rfl rfl
theorem pla : Statement .pla := bare 0x68#8 rfl rfl rfl rfl rfl rfl
theorem adcImm (b : Byte) : Statement (.adcImm b) :=
  byte (f := .adcImm) 0x69#8 rfl rfl (fun _ => ⟨rfl, rfl⟩) rfl rfl rfl
theorem rorAcc : Statement .rorAcc := bare 0x6A#8 rfl rfl rfl rfl rfl rfl
theorem arrImm (b : Byte) : Statement (.arrImm b) :=
  byte (f := .arrImm) 0x6B#8 rfl rfl (fun _ => ⟨rfl, rfl⟩) rfl rfl rfl
theorem jmpInd (w : Word) : Statement (.jmpInd w) :=
  word (f := .jmpInd) 0x6C#8 rfl rfl (fun _ => ⟨rfl, rfl⟩) rfl rfl rfl
theorem adcAbs (w : Word) : Statement (.adcAbs w) :=
  word (f := .adcAbs) 0x6D#8 rfl rfl (fun _ => ⟨rfl, rfl⟩) rfl rfl rfl
theorem rorAbs (w : Word) : Statement (.rorAbs w) :=
  word (f := .rorAbs) 0x6E#8 rfl rfl (fun _ => ⟨rfl, rfl⟩) rfl rfl rfl
theorem rraAbs (w : Word) : Statement (.rraAbs w) :=
  word (f := .rraAbs) 0x6F#8 rfl rfl (fun _ => ⟨rfl, rfl⟩) rfl rfl rfl
theorem bvs (r : Byte) : Statement (.bvs r) :=
  byte (f := .bvs) 0x70#8 rfl rfl (fun _ => ⟨rfl, rfl⟩) rfl rfl rfl
theorem adcIzy (z : Byte) : Statement (.adcIzy z) :=
  byte (f := .adcIzy) 0x71#8 rfl rfl (fun _ => ⟨rfl, rfl⟩) rfl rfl rfl
theorem jam72 : Statement .jam72 := bare 0x72#8 rfl rfl rfl rfl rfl rfl
theorem rraIzy (z : Byte) : Statement (.rraIzy z) :=
  byte (f := .rraIzy) 0x73#8 rfl rfl (fun _ => ⟨rfl, rfl⟩) rfl rfl rfl
theorem nopZpx74 (z : Byte) : Statement (.nopZpx74 z) :=
  byte (f := .nopZpx74) 0x74#8 rfl rfl (fun _ => ⟨rfl, rfl⟩) rfl rfl rfl
theorem adcZpx (z : Byte) : Statement (.adcZpx z) :=
  byte (f := .adcZpx) 0x75#8 rfl rfl (fun _ => ⟨rfl, rfl⟩) rfl rfl rfl
theorem rorZpx (z : Byte) : Statement (.rorZpx z) :=
  byte (f := .rorZpx) 0x76#8 rfl rfl (fun _ => ⟨rfl, rfl⟩) rfl rfl rfl
theorem rraZpx (z : Byte) : Statement (.rraZpx z) :=
  byte (f := .rraZpx) 0x77#8 rfl rfl (fun _ => ⟨rfl, rfl⟩) rfl rfl rfl
theorem sei : Statement .sei := bare 0x78#8 rfl rfl rfl rfl rfl rfl
theorem adcAbsy (w : Word) : Statement (.adcAbsy w) :=
  word (f := .adcAbsy) 0x79#8 rfl rfl (fun _ => ⟨rfl, rfl⟩) rfl rfl rfl
theorem nop7A : Statement .nop7A := bare 0x7A#8 rfl rfl rfl rfl rfl rfl
theorem rraAbsy (w : Word) : Statement (.rraAbsy w) :=
  word (f := .rraAbsy) 0x7B#8 rfl rfl (fun _ => ⟨rfl, rfl⟩) rfl rfl rfl
theorem nopAbsx7C (w : Word) : Statement (.nopAbsx7C w) :=
  word (f := .nopAbsx7C) 0x7C#8 rfl rfl (fun _ => ⟨rfl, rfl⟩) rfl rfl rfl
theorem adcAbsx (w : Word) : Statement (.adcAbsx w) :=
  word (f := .adcAbsx) 0x7D#8 rfl rfl (fun _ => ⟨rfl, rfl⟩) rfl rfl rfl
theorem rorAbsx (w : Word) : Statement (.rorAbsx w) :=
  word (f := .rorAbsx) 0x7E#8 rfl rfl (fun _ => ⟨rfl, rfl⟩) rfl rfl rfl
theorem rraAbsx (w : Word) : Statement (.rraAbsx w) :=
  word (f := .rraAbsx) 0x7F#8 rfl rfl (fun _ => ⟨rfl, rfl⟩) rfl rfl rfl
theorem nopImm80 (b : Byte) : Statement (.nopImm80 b) :=
  byte (f := .nopImm80) 0x80#8 rfl rfl (fun _ => ⟨rfl, rfl⟩) rfl rfl rfl
theorem staIzx (z : Byte) : Statement (.staIzx z) :=
  byte (f := .staIzx) 0x81#8 rfl rfl (fun _ => ⟨rfl, rfl⟩) rfl rfl rfl
theorem nopImm82 (b : Byte) : Statement (.nopImm82 b) :=
  byte (f := .nopImm82) 0x82#8 rfl rfl (fun _ => ⟨rfl, rfl⟩) rfl rfl rfl
theorem saxIzx (z : Byte) : Statement (.saxIzx z) :=
  byte (f := .saxIzx) 0x83#8 rfl rfl (fun _ => ⟨rfl, rfl⟩) rfl rfl rfl
theorem styZp (z : Byte) : Statement (.styZp z) :=
  byte (f := .styZp) 0x84#8 rfl rfl (fun _ => ⟨rfl, rfl⟩) rfl rfl rfl
theorem staZp (z : Byte) : Statement (.staZp z) :=
  byte (f := .staZp) 0x85#8 rfl rfl (fun _ => ⟨rfl, rfl⟩) rfl rfl rfl
theorem stxZp (z : Byte) : Statement (.stxZp z) :=
  byte (f := .stxZp) 0x86#8 rfl rfl (fun _ => ⟨rfl, rfl⟩) rfl rfl rfl
theorem saxZp (z : Byte) : Statement (.saxZp z) :=
  byte (f := .saxZp) 0x87#8 rfl rfl (fun _ => ⟨rfl, rfl⟩) rfl rfl rfl
theorem dey : Statement .dey := bare 0x88#8 rfl rfl rfl rfl rfl rfl
theorem nopImm89 (b : Byte) : Statement (.nopImm89 b) :=
  byte (f := .nopImm89) 0x89#8 rfl rfl (fun _ => ⟨rfl, rfl⟩) rfl rfl rfl
theorem txa : Statement .txa := bare 0x8A#8 rfl rfl rfl rfl rfl rfl
theorem ane : Statement .ane := bare 0x8B#8 rfl rfl rfl rfl rfl rfl
theorem styAbs (w : Word) : Statement (.styAbs w) :=
  word (f := .styAbs) 0x8C#8 rfl rfl (fun _ => ⟨rfl, rfl⟩) rfl rfl rfl
theorem staAbs (w : Word) : Statement (.staAbs w) :=
  word (f := .staAbs) 0x8D#8 rfl rfl (fun _ => ⟨rfl, rfl⟩) rfl rfl rfl
theorem stxAbs (w : Word) : Statement (.stxAbs w) :=
  word (f := .stxAbs) 0x8E#8 rfl rfl (fun _ => ⟨rfl, rfl⟩) rfl rfl rfl
theorem saxAbs (w : Word) : Statement (.saxAbs w) :=
  word (f := .saxAbs) 0x8F#8 rfl rfl (fun _ => ⟨rfl, rfl⟩) rfl rfl rfl
theorem bcc (r : Byte) : Statement (.bcc r) :=
  byte (f := .bcc) 0x90#8 rfl rfl (fun _ => ⟨rfl, rfl⟩) rfl rfl rfl
theorem staIzy (z : Byte) : Statement (.staIzy z) :=
  byte (f := .staIzy) 0x91#8 rfl rfl (fun _ => ⟨rfl, rfl⟩) rfl rfl rfl
theorem jam92 : Statement .jam92 := bare 0x92#8 rfl rfl rfl rfl rfl rfl
theorem sha93 : Statement .sha93 := bare 0x93#8 rfl rfl rfl rfl rfl rfl
theorem styZpx (z : Byte) : Statement (.styZpx z) :=
  byte (f := .styZpx) 0x94#8 rfl rfl (fun _ => ⟨rfl, rfl⟩) rfl rfl rfl
theorem staZpx (z : Byte) : Statement (.staZpx z) :=
  byte (f := .staZpx) 0x95#8 rfl rfl (fun _ => ⟨rfl, rfl⟩) rfl rfl rfl
theorem stxZpy (z : Byte) : Statement (.stxZpy z) :=
  byte (f := .stxZpy) 0x96#8 rfl rfl (fun _ => ⟨rfl, rfl⟩) rfl rfl rfl
theorem saxZpy (z : Byte) : Statement (.saxZpy z) :=
  byte (f := .saxZpy) 0x97#8 rfl rfl (fun _ => ⟨rfl, rfl⟩) rfl rfl rfl
theorem tya : Statement .tya := bare 0x98#8 rfl rfl rfl rfl rfl rfl
theorem staAbsy (w : Word) : Statement (.staAbsy w) :=
  word (f := .staAbsy) 0x99#8 rfl rfl (fun _ => ⟨rfl, rfl⟩) rfl rfl rfl
theorem txs : Statement .txs := bare 0x9A#8 rfl rfl rfl rfl rfl rfl
theorem tas : Statement .tas := bare 0x9B#8 rfl rfl rfl rfl rfl rfl
theorem shy : Statement .shy := bare 0x9C#8 rfl rfl rfl rfl rfl rfl
theorem staAbsx (w : Word) : Statement (.staAbsx w) :=
  word (f := .staAbsx) 0x9D#8 rfl rfl (fun _ => ⟨rfl, rfl⟩) rfl rfl rfl
theorem shx : Statement .shx := bare 0x9E#8 rfl rfl rfl rfl rfl rfl
theorem sha9F : Statement .sha9F := bare 0x9F#8 rfl rfl rfl rfl rfl rfl
theorem ldyImm (b : Byte) : Statement (.ldyImm b) :=
  byte (f := .ldyImm) 0xA0#8 rfl rfl (fun _ => ⟨rfl, rfl⟩) rfl rfl rfl
theorem ldaIzx (z : Byte) : Statement (.ldaIzx z) :=
  byte (f := .ldaIzx) 0xA1#8 rfl rfl (fun _ => ⟨rfl, rfl⟩) rfl rfl rfl
theorem ldxImm (b : Byte) : Statement (.ldxImm b) :=
  byte (f := .ldxImm) 0xA2#8 rfl rfl (fun _ => ⟨rfl, rfl⟩) rfl rfl rfl
theorem laxIzx (z : Byte) : Statement (.laxIzx z) :=
  byte (f := .laxIzx) 0xA3#8 rfl rfl (fun _ => ⟨rfl, rfl⟩) rfl rfl rfl
theorem ldyZp (z : Byte) : Statement (.ldyZp z) :=
  byte (f := .ldyZp) 0xA4#8 rfl rfl (fun _ => ⟨rfl, rfl⟩) rfl rfl rfl
theorem ldaZp (z : Byte) : Statement (.ldaZp z) :=
  byte (f := .ldaZp) 0xA5#8 rfl rfl (fun _ => ⟨rfl, rfl⟩) rfl rfl rfl
theorem ldxZp (z : Byte) : Statement (.ldxZp z) :=
  byte (f := .ldxZp) 0xA6#8 rfl rfl (fun _ => ⟨rfl, rfl⟩) rfl rfl rfl
theorem laxZp (z : Byte) : Statement (.laxZp z) :=
  byte (f := .laxZp) 0xA7#8 rfl rfl (fun _ => ⟨rfl, rfl⟩) rfl rfl rfl
theorem tay : Statement .tay := bare 0xA8#8 rfl rfl rfl rfl rfl rfl
theorem ldaImm (b : Byte) : Statement (.ldaImm b) :=
  byte (f := .ldaImm) 0xA9#8 rfl rfl (fun _ => ⟨rfl, rfl⟩) rfl rfl rfl
theorem tax : Statement .tax := bare 0xAA#8 rfl rfl rfl rfl rfl rfl
theorem lxa : Statement .lxa := bare 0xAB#8 rfl rfl rfl rfl rfl rfl
theorem ldyAbs (w : Word) : Statement (.ldyAbs w) :=
  word (f := .ldyAbs) 0xAC#8 rfl rfl (fun _ => ⟨rfl, rfl⟩) rfl rfl rfl
theorem ldaAbs (w : Word) : Statement (.ldaAbs w) :=
  word (f := .ldaAbs) 0xAD#8 rfl rfl (fun _ => ⟨rfl, rfl⟩) rfl rfl rfl
theorem ldxAbs (w : Word) : Statement (.ldxAbs w) :=
  word (f := .ldxAbs) 0xAE#8 rfl rfl (fun _ => ⟨rfl, rfl⟩) rfl rfl rfl
theorem laxAbs (w : Word) : Statement (.laxAbs w) :=
  word (f := .laxAbs) 0xAF#8 rfl rfl (fun _ => ⟨rfl, rfl⟩) rfl rfl rfl
theorem bcs (r : Byte) : Statement (.bcs r) :=
  byte (f := .bcs) 0xB0#8 rfl rfl (fun _ => ⟨rfl, rfl⟩) rfl rfl rfl
theorem ldaIzy (z : Byte) : Statement (.ldaIzy z) :=
  byte (f := .ldaIzy) 0xB1#8 rfl rfl (fun _ => ⟨rfl, rfl⟩) rfl rfl rfl
theorem jamB2 : Statement .jamB2 := bare 0xB2#8 rfl rfl rfl rfl rfl rfl
theorem laxIzy (z : Byte) : Statement (.laxIzy z) :=
  byte (f := .laxIzy) 0xB3#8 rfl rfl (fun _ => ⟨rfl, rfl⟩) rfl rfl rfl
theorem ldyZpx (z : Byte) : Statement (.ldyZpx z) :=
  byte (f := .ldyZpx) 0xB4#8 rfl rfl (fun _ => ⟨rfl, rfl⟩) rfl rfl rfl
theorem ldaZpx (z : Byte) : Statement (.ldaZpx z) :=
  byte (f := .ldaZpx) 0xB5#8 rfl rfl (fun _ => ⟨rfl, rfl⟩) rfl rfl rfl
theorem ldxZpy (z : Byte) : Statement (.ldxZpy z) :=
  byte (f := .ldxZpy) 0xB6#8 rfl rfl (fun _ => ⟨rfl, rfl⟩) rfl rfl rfl
theorem laxZpy (z : Byte) : Statement (.laxZpy z) :=
  byte (f := .laxZpy) 0xB7#8 rfl rfl (fun _ => ⟨rfl, rfl⟩) rfl rfl rfl
theorem clv : Statement .clv := bare 0xB8#8 rfl rfl rfl rfl rfl rfl
theorem ldaAbsy (w : Word) : Statement (.ldaAbsy w) :=
  word (f := .ldaAbsy) 0xB9#8 rfl rfl (fun _ => ⟨rfl, rfl⟩) rfl rfl rfl
theorem tsx : Statement .tsx := bare 0xBA#8 rfl rfl rfl rfl rfl rfl
theorem lasAbsy (w : Word) : Statement (.lasAbsy w) :=
  word (f := .lasAbsy) 0xBB#8 rfl rfl (fun _ => ⟨rfl, rfl⟩) rfl rfl rfl
theorem ldyAbsx (w : Word) : Statement (.ldyAbsx w) :=
  word (f := .ldyAbsx) 0xBC#8 rfl rfl (fun _ => ⟨rfl, rfl⟩) rfl rfl rfl
theorem ldaAbsx (w : Word) : Statement (.ldaAbsx w) :=
  word (f := .ldaAbsx) 0xBD#8 rfl rfl (fun _ => ⟨rfl, rfl⟩) rfl rfl rfl
theorem ldxAbsy (w : Word) : Statement (.ldxAbsy w) :=
  word (f := .ldxAbsy) 0xBE#8 rfl rfl (fun _ => ⟨rfl, rfl⟩) rfl rfl rfl
theorem laxAbsy (w : Word) : Statement (.laxAbsy w) :=
  word (f := .laxAbsy) 0xBF#8 rfl rfl (fun _ => ⟨rfl, rfl⟩) rfl rfl rfl
theorem cpyImm (b : Byte) : Statement (.cpyImm b) :=
  byte (f := .cpyImm) 0xC0#8 rfl rfl (fun _ => ⟨rfl, rfl⟩) rfl rfl rfl
theorem cmpIzx (z : Byte) : Statement (.cmpIzx z) :=
  byte (f := .cmpIzx) 0xC1#8 rfl rfl (fun _ => ⟨rfl, rfl⟩) rfl rfl rfl
theorem nopImmC2 (b : Byte) : Statement (.nopImmC2 b) :=
  byte (f := .nopImmC2) 0xC2#8 rfl rfl (fun _ => ⟨rfl, rfl⟩) rfl rfl rfl
theorem dcpIzx (z : Byte) : Statement (.dcpIzx z) :=
  byte (f := .dcpIzx) 0xC3#8 rfl rfl (fun _ => ⟨rfl, rfl⟩) rfl rfl rfl
theorem cpyZp (z : Byte) : Statement (.cpyZp z) :=
  byte (f := .cpyZp) 0xC4#8 rfl rfl (fun _ => ⟨rfl, rfl⟩) rfl rfl rfl
theorem cmpZp (z : Byte) : Statement (.cmpZp z) :=
  byte (f := .cmpZp) 0xC5#8 rfl rfl (fun _ => ⟨rfl, rfl⟩) rfl rfl rfl
theorem decZp (z : Byte) : Statement (.decZp z) :=
  byte (f := .decZp) 0xC6#8 rfl rfl (fun _ => ⟨rfl, rfl⟩) rfl rfl rfl
theorem dcpZp (z : Byte) : Statement (.dcpZp z) :=
  byte (f := .dcpZp) 0xC7#8 rfl rfl (fun _ => ⟨rfl, rfl⟩) rfl rfl rfl
theorem iny : Statement .iny := bare 0xC8#8 rfl rfl rfl rfl rfl rfl
theorem cmpImm (b : Byte) : Statement (.cmpImm b) :=
  byte (f := .cmpImm) 0xC9#8 rfl rfl (fun _ => ⟨rfl, rfl⟩) rfl rfl rfl
theorem dex : Statement .dex := bare 0xCA#8 rfl rfl rfl rfl rfl rfl
theorem sbxImm (b : Byte) : Statement (.sbxImm b) :=
  byte (f := .sbxImm) 0xCB#8 rfl rfl (fun _ => ⟨rfl, rfl⟩) rfl rfl rfl
theorem cpyAbs (w : Word) : Statement (.cpyAbs w) :=
  word (f := .cpyAbs) 0xCC#8 rfl rfl (fun _ => ⟨rfl, rfl⟩) rfl rfl rfl
theorem cmpAbs (w : Word) : Statement (.cmpAbs w) :=
  word (f := .cmpAbs) 0xCD#8 rfl rfl (fun _ => ⟨rfl, rfl⟩) rfl rfl rfl
theorem decAbs (w : Word) : Statement (.decAbs w) :=
  word (f := .decAbs) 0xCE#8 rfl rfl (fun _ => ⟨rfl, rfl⟩) rfl rfl rfl
theorem dcpAbs (w : Word) : Statement (.dcpAbs w) :=
  word (f := .dcpAbs) 0xCF#8 rfl rfl (fun _ => ⟨rfl, rfl⟩) rfl rfl rfl
theorem bne (r : Byte) : Statement (.bne r) :=
  byte (f := .bne) 0xD0#8 rfl rfl (fun _ => ⟨rfl, rfl⟩) rfl rfl rfl
theorem cmpIzy (z : Byte) : Statement (.cmpIzy z) :=
  byte (f := .cmpIzy) 0xD1#8 rfl rfl (fun _ => ⟨rfl, rfl⟩) rfl rfl rfl
theorem jamD2 : Statement .jamD2 := bare 0xD2#8 rfl rfl rfl rfl rfl rfl
theorem dcpIzy (z : Byte) : Statement (.dcpIzy z) :=
  byte (f := .dcpIzy) 0xD3#8 rfl rfl (fun _ => ⟨rfl, rfl⟩) rfl rfl rfl
theorem nopZpxD4 (z : Byte) : Statement (.nopZpxD4 z) :=
  byte (f := .nopZpxD4) 0xD4#8 rfl rfl (fun _ => ⟨rfl, rfl⟩) rfl rfl rfl
theorem cmpZpx (z : Byte) : Statement (.cmpZpx z) :=
  byte (f := .cmpZpx) 0xD5#8 rfl rfl (fun _ => ⟨rfl, rfl⟩) rfl rfl rfl
theorem decZpx (z : Byte) : Statement (.decZpx z) :=
  byte (f := .decZpx) 0xD6#8 rfl rfl (fun _ => ⟨rfl, rfl⟩) rfl rfl rfl
theorem dcpZpx (z : Byte) : Statement (.dcpZpx z) :=
  byte (f := .dcpZpx) 0xD7#8 rfl rfl (fun _ => ⟨rfl, rfl⟩) rfl rfl rfl
theorem cld : Statement .cld := bare 0xD8#8 rfl rfl rfl rfl rfl rfl
theorem cmpAbsy (w : Word) : Statement (.cmpAbsy w) :=
  word (f := .cmpAbsy) 0xD9#8 rfl rfl (fun _ => ⟨rfl, rfl⟩) rfl rfl rfl
theorem nopDA : Statement .nopDA := bare 0xDA#8 rfl rfl rfl rfl rfl rfl
theorem dcpAbsy (w : Word) : Statement (.dcpAbsy w) :=
  word (f := .dcpAbsy) 0xDB#8 rfl rfl (fun _ => ⟨rfl, rfl⟩) rfl rfl rfl
theorem nopAbsxDC (w : Word) : Statement (.nopAbsxDC w) :=
  word (f := .nopAbsxDC) 0xDC#8 rfl rfl (fun _ => ⟨rfl, rfl⟩) rfl rfl rfl
theorem cmpAbsx (w : Word) : Statement (.cmpAbsx w) :=
  word (f := .cmpAbsx) 0xDD#8 rfl rfl (fun _ => ⟨rfl, rfl⟩) rfl rfl rfl
theorem decAbsx (w : Word) : Statement (.decAbsx w) :=
  word (f := .decAbsx) 0xDE#8 rfl rfl (fun _ => ⟨rfl, rfl⟩) rfl rfl rfl
theorem dcpAbsx (w : Word) : Statement (.dcpAbsx w) :=
  word (f := .dcpAbsx) 0xDF#8 rfl rfl (fun _ => ⟨rfl, rfl⟩) rfl rfl rfl
theorem cpxImm (b : Byte) : Statement (.cpxImm b) :=
  byte (f := .cpxImm) 0xE0#8 rfl rfl (fun _ => ⟨rfl, rfl⟩) rfl rfl rfl
theorem sbcIzx (z : Byte) : Statement (.sbcIzx z) :=
  byte (f := .sbcIzx) 0xE1#8 rfl rfl (fun _ => ⟨rfl, rfl⟩) rfl rfl rfl
theorem nopImmE2 (b : Byte) : Statement (.nopImmE2 b) :=
  byte (f := .nopImmE2) 0xE2#8 rfl rfl (fun _ => ⟨rfl, rfl⟩) rfl rfl rfl
theorem isbIzx (z : Byte) : Statement (.isbIzx z) :=
  byte (f := .isbIzx) 0xE3#8 rfl rfl (fun _ => ⟨rfl, rfl⟩) rfl rfl rfl
theorem cpxZp (z : Byte) : Statement (.cpxZp z) :=
  byte (f := .cpxZp) 0xE4#8 rfl rfl (fun _ => ⟨rfl, rfl⟩) rfl rfl rfl
theorem sbcZp (z : Byte) : Statement (.sbcZp z) :=
  byte (f := .sbcZp) 0xE5#8 rfl rfl (fun _ => ⟨rfl, rfl⟩) rfl rfl rfl
theorem incZp (z : Byte) : Statement (.incZp z) :=
  byte (f := .incZp) 0xE6#8 rfl rfl (fun _ => ⟨rfl, rfl⟩) rfl rfl rfl
theorem isbZp (z : Byte) : Statement (.isbZp z) :=
  byte (f := .isbZp) 0xE7#8 rfl rfl (fun _ => ⟨rfl, rfl⟩) rfl rfl rfl
theorem inx : Statement .inx := bare 0xE8#8 rfl rfl rfl rfl rfl rfl
theorem sbcImm (b : Byte) : Statement (.sbcImm b) :=
  byte (f := .sbcImm) 0xE9#8 rfl rfl (fun _ => ⟨rfl, rfl⟩) rfl rfl rfl
theorem nop : Statement .nop := bare 0xEA#8 rfl rfl rfl rfl rfl rfl
theorem sbcImmEB (b : Byte) : Statement (.sbcImmEB b) :=
  byte (f := .sbcImmEB) 0xEB#8 rfl rfl (fun _ => ⟨rfl, rfl⟩) rfl rfl rfl
theorem cpxAbs (w : Word) : Statement (.cpxAbs w) :=
  word (f := .cpxAbs) 0xEC#8 rfl rfl (fun _ => ⟨rfl, rfl⟩) rfl rfl rfl
theorem sbcAbs (w : Word) : Statement (.sbcAbs w) :=
  word (f := .sbcAbs) 0xED#8 rfl rfl (fun _ => ⟨rfl, rfl⟩) rfl rfl rfl
theorem incAbs (w : Word) : Statement (.incAbs w) :=
  word (f := .incAbs) 0xEE#8 rfl rfl (fun _ => ⟨rfl, rfl⟩) rfl rfl rfl
theorem isbAbs (w : Word) : Statement (.isbAbs w) :=
  word (f := .isbAbs) 0xEF#8 rfl rfl (fun _ => ⟨rfl, rfl⟩) rfl rfl rfl
theorem beq (r : Byte) : Statement (.beq r) :=
  byte (f := .beq) 0xF0#8 rfl rfl (fun _ => ⟨rfl, rfl⟩) rfl rfl rfl
theorem sbcIzy (z : Byte) : Statement (.sbcIzy z) :=
  byte (f := .sbcIzy) 0xF1#8 rfl rfl (fun _ => ⟨rfl, rfl⟩) rfl rfl rfl
theorem jamF2 : Statement .jamF2 := bare 0xF2#8 rfl rfl rfl rfl rfl rfl
theorem isbIzy (z : Byte) : Statement (.isbIzy z) :=
  byte (f := .isbIzy) 0xF3#8 rfl rfl (fun _ => ⟨rfl, rfl⟩) rfl rfl rfl
theorem nopZpxF4 (z : Byte) : Statement (.nopZpxF4 z) :=
  byte (f := .nopZpxF4) 0xF4#8 rfl rfl (fun _ => ⟨rfl, rfl⟩) rfl rfl rfl
theorem sbcZpx (z : Byte) : Statement (.sbcZpx z) :=
  byte (f := .sbcZpx) 0xF5#8 rfl rfl (fun _ => ⟨rfl, rfl⟩) rfl rfl rfl
theorem incZpx (z : Byte) : Statement (.incZpx z) :=
  byte (f := .incZpx) 0xF6#8 rfl rfl (fun _ => ⟨rfl, rfl⟩) rfl rfl rfl
theorem isbZpx (z : Byte) : Statement (.isbZpx z) :=
  byte (f := .isbZpx) 0xF7#8 rfl rfl (fun _ => ⟨rfl, rfl⟩) rfl rfl rfl
theorem sed : Statement .sed := bare 0xF8#8 rfl rfl rfl rfl rfl rfl
theorem sbcAbsy (w : Word) : Statement (.sbcAbsy w) :=
  word (f := .sbcAbsy) 0xF9#8 rfl rfl (fun _ => ⟨rfl, rfl⟩) rfl rfl rfl
theorem nopFA : Statement .nopFA := bare 0xFA#8 rfl rfl rfl rfl rfl rfl
theorem isbAbsy (w : Word) : Statement (.isbAbsy w) :=
  word (f := .isbAbsy) 0xFB#8 rfl rfl (fun _ => ⟨rfl, rfl⟩) rfl rfl rfl
theorem nopAbsxFC (w : Word) : Statement (.nopAbsxFC w) :=
  word (f := .nopAbsxFC) 0xFC#8 rfl rfl (fun _ => ⟨rfl, rfl⟩) rfl rfl rfl
theorem sbcAbsx (w : Word) : Statement (.sbcAbsx w) :=
  word (f := .sbcAbsx) 0xFD#8 rfl rfl (fun _ => ⟨rfl, rfl⟩) rfl rfl rfl
theorem incAbsx (w : Word) : Statement (.incAbsx w) :=
  word (f := .incAbsx) 0xFE#8 rfl rfl (fun _ => ⟨rfl, rfl⟩) rfl rfl rfl
theorem isbAbsx (w : Word) : Statement (.isbAbsx w) :=
  word (f := .isbAbsx) 0xFF#8 rfl rfl (fun _ => ⟨rfl, rfl⟩) rfl rfl rfl

end Sys2Proof.Laws.Table
end

