-- ==== Sys2Proof/Laws/Table.lean ====
section
/-! SUPPORT. The family `Table` put together, and what it says of decoding an opcode. -/

namespace Sys2Proof

/-- The family's lemmas, for every instruction. -/
theorem table_statement : ∀ i : Instr, Laws.Table.Statement i
  | .brk => Laws.Table.brk
  | .oraIzx z => Laws.Table.oraIzx z
  | .jam02 => Laws.Table.jam02
  | .sloIzx z => Laws.Table.sloIzx z
  | .nopZp04 z => Laws.Table.nopZp04 z
  | .oraZp z => Laws.Table.oraZp z
  | .aslZp z => Laws.Table.aslZp z
  | .sloZp z => Laws.Table.sloZp z
  | .php => Laws.Table.php
  | .oraImm b => Laws.Table.oraImm b
  | .aslAcc => Laws.Table.aslAcc
  | .ancImm0B b => Laws.Table.ancImm0B b
  | .nopAbs w => Laws.Table.nopAbs w
  | .oraAbs w => Laws.Table.oraAbs w
  | .aslAbs w => Laws.Table.aslAbs w
  | .sloAbs w => Laws.Table.sloAbs w
  | .bpl r => Laws.Table.bpl r
  | .oraIzy z => Laws.Table.oraIzy z
  | .jam12 => Laws.Table.jam12
  | .sloIzy z => Laws.Table.sloIzy z
  | .nopZpx14 z => Laws.Table.nopZpx14 z
  | .oraZpx z => Laws.Table.oraZpx z
  | .aslZpx z => Laws.Table.aslZpx z
  | .sloZpx z => Laws.Table.sloZpx z
  | .clc => Laws.Table.clc
  | .oraAbsy w => Laws.Table.oraAbsy w
  | .nop1A => Laws.Table.nop1A
  | .sloAbsy w => Laws.Table.sloAbsy w
  | .nopAbsx1C w => Laws.Table.nopAbsx1C w
  | .oraAbsx w => Laws.Table.oraAbsx w
  | .aslAbsx w => Laws.Table.aslAbsx w
  | .sloAbsx w => Laws.Table.sloAbsx w
  | .jsr w => Laws.Table.jsr w
  | .andIzx z => Laws.Table.andIzx z
  | .jam22 => Laws.Table.jam22
  | .rlaIzx z => Laws.Table.rlaIzx z
  | .bitZp z => Laws.Table.bitZp z
  | .andZp z => Laws.Table.andZp z
  | .rolZp z => Laws.Table.rolZp z
  | .rlaZp z => Laws.Table.rlaZp z
  | .plp => Laws.Table.plp
  | .andImm b => Laws.Table.andImm b
  | .rolAcc => Laws.Table.rolAcc
  | .ancImm2B b => Laws.Table.ancImm2B b
  | .bitAbs w => Laws.Table.bitAbs w
  | .andAbs w => Laws.Table.andAbs w
  | .rolAbs w => Laws.Table.rolAbs w
  | .rlaAbs w => Laws.Table.rlaAbs w
  | .bmi r => Laws.Table.bmi r
  | .andIzy z => Laws.Table.andIzy z
  | .jam32 => Laws.Table.jam32
  | .rlaIzy z => Laws.Table.rlaIzy z
  | .nopZpx34 z => Laws.Table.nopZpx34 z
  | .andZpx z => Laws.Table.andZpx z
  | .rolZpx z => Laws.Table.rolZpx z
  | .rlaZpx z => Laws.Table.rlaZpx z
  | .sec => Laws.Table.sec
  | .andAbsy w => Laws.Table.andAbsy w
  | .nop3A => Laws.Table.nop3A
  | .rlaAbsy w => Laws.Table.rlaAbsy w
  | .nopAbsx3C w => Laws.Table.nopAbsx3C w
  | .andAbsx w => Laws.Table.andAbsx w
  | .rolAbsx w => Laws.Table.rolAbsx w
  | .rlaAbsx w => Laws.Table.rlaAbsx w
  | .rti => Laws.Table.rti
  | .eorIzx z => Laws.Table.eorIzx z
  | .jam42 => Laws.Table.jam42
  | .sreIzx z => Laws.Table.sreIzx z
  | .nopZp44 z => Laws.Table.nopZp44 z
  | .eorZp z => Laws.Table.eorZp z
  | .lsrZp z => Laws.Table.lsrZp z
  | .sreZp z => Laws.Table.sreZp z
  | .pha => Laws.Table.pha
  | .eorImm b => Laws.Table.eorImm b
  | .lsrAcc => Laws.Table.lsrAcc
  | .alrImm b => Laws.Table.alrImm b
  | .jmpAbs w => Laws.Table.jmpAbs w
  | .eorAbs w => Laws.Table.eorAbs w
  | .lsrAbs w => Laws.Table.lsrAbs w
  | .sreAbs w => Laws.Table.sreAbs w
  | .bvc r => Laws.Table.bvc r
  | .eorIzy z => Laws.Table.eorIzy z
  | .jam52 => Laws.Table.jam52
  | .sreIzy z => Laws.Table.sreIzy z
  | .nopZpx54 z => Laws.Table.nopZpx54 z
  | .eorZpx z => Laws.Table.eorZpx z
  | .lsrZpx z => Laws.Table.lsrZpx z
  | .sreZpx z => Laws.Table.sreZpx z
  | .cli => Laws.Table.cli
  | .eorAbsy w => Laws.Table.eorAbsy w
  | .nop5A => Laws.Table.nop5A
  | .sreAbsy w => Laws.Table.sreAbsy w
  | .nopAbsx5C w => Laws.Table.nopAbsx5C w
  | .eorAbsx w => Laws.Table.eorAbsx w
  | .lsrAbsx w => Laws.Table.lsrAbsx w
  | .sreAbsx w => Laws.Table.sreAbsx w
  | .rts => Laws.Table.rts
  | .adcIzx z => Laws.Table.adcIzx z
  | .jam62 => Laws.Table.jam62
  | .rraIzx z => Laws.Table.rraIzx z
  | .nopZp64 z => Laws.Table.nopZp64 z
  | .adcZp z => Laws.Table.adcZp z
  | .rorZp z => Laws.Table.rorZp z
  | .rraZp z => Laws.Table.rraZp z
  | .pla => Laws.Table.pla
  | .adcImm b => Laws.Table.adcImm b
  | .rorAcc => Laws.Table.rorAcc
  | .arrImm b => Laws.Table.arrImm b
  | .jmpInd w => Laws.Table.jmpInd w
  | .adcAbs w => Laws.Table.adcAbs w
  | .rorAbs w => Laws.Table.rorAbs w
  | .rraAbs w => Laws.Table.rraAbs w
  | .bvs r => Laws.Table.bvs r
  | .adcIzy z => Laws.Table.adcIzy z
  | .jam72 => Laws.Table.jam72
  | .rraIzy z => Laws.Table.rraIzy z
  | .nopZpx74 z => Laws.Table.nopZpx74 z
  | .adcZpx z => Laws.Table.adcZpx z
  | .rorZpx z => Laws.Table.rorZpx z
  | .rraZpx z => Laws.Table.rraZpx z
  | .sei => Laws.Table.sei
  | .adcAbsy w => Laws.Table.adcAbsy w
  | .nop7A => Laws.Table.nop7A
  | .rraAbsy w => Laws.Table.rraAbsy w
  | .nopAbsx7C w => Laws.Table.nopAbsx7C w
  | .adcAbsx w => Laws.Table.adcAbsx w
  | .rorAbsx w => Laws.Table.rorAbsx w
  | .rraAbsx w => Laws.Table.rraAbsx w
  | .nopImm80 b => Laws.Table.nopImm80 b
  | .staIzx z => Laws.Table.staIzx z
  | .nopImm82 b => Laws.Table.nopImm82 b
  | .saxIzx z => Laws.Table.saxIzx z
  | .styZp z => Laws.Table.styZp z
  | .staZp z => Laws.Table.staZp z
  | .stxZp z => Laws.Table.stxZp z
  | .saxZp z => Laws.Table.saxZp z
  | .dey => Laws.Table.dey
  | .nopImm89 b => Laws.Table.nopImm89 b
  | .txa => Laws.Table.txa
  | .ane => Laws.Table.ane
  | .styAbs w => Laws.Table.styAbs w
  | .staAbs w => Laws.Table.staAbs w
  | .stxAbs w => Laws.Table.stxAbs w
  | .saxAbs w => Laws.Table.saxAbs w
  | .bcc r => Laws.Table.bcc r
  | .staIzy z => Laws.Table.staIzy z
  | .jam92 => Laws.Table.jam92
  | .sha93 => Laws.Table.sha93
  | .styZpx z => Laws.Table.styZpx z
  | .staZpx z => Laws.Table.staZpx z
  | .stxZpy z => Laws.Table.stxZpy z
  | .saxZpy z => Laws.Table.saxZpy z
  | .tya => Laws.Table.tya
  | .staAbsy w => Laws.Table.staAbsy w
  | .txs => Laws.Table.txs
  | .tas => Laws.Table.tas
  | .shy => Laws.Table.shy
  | .staAbsx w => Laws.Table.staAbsx w
  | .shx => Laws.Table.shx
  | .sha9F => Laws.Table.sha9F
  | .ldyImm b => Laws.Table.ldyImm b
  | .ldaIzx z => Laws.Table.ldaIzx z
  | .ldxImm b => Laws.Table.ldxImm b
  | .laxIzx z => Laws.Table.laxIzx z
  | .ldyZp z => Laws.Table.ldyZp z
  | .ldaZp z => Laws.Table.ldaZp z
  | .ldxZp z => Laws.Table.ldxZp z
  | .laxZp z => Laws.Table.laxZp z
  | .tay => Laws.Table.tay
  | .ldaImm b => Laws.Table.ldaImm b
  | .tax => Laws.Table.tax
  | .lxa => Laws.Table.lxa
  | .ldyAbs w => Laws.Table.ldyAbs w
  | .ldaAbs w => Laws.Table.ldaAbs w
  | .ldxAbs w => Laws.Table.ldxAbs w
  | .laxAbs w => Laws.Table.laxAbs w
  | .bcs r => Laws.Table.bcs r
  | .ldaIzy z => Laws.Table.ldaIzy z
  | .jamB2 => Laws.Table.jamB2
  | .laxIzy z => Laws.Table.laxIzy z
  | .ldyZpx z => Laws.Table.ldyZpx z
  | .ldaZpx z => Laws.Table.ldaZpx z
  | .ldxZpy z => Laws.Table.ldxZpy z
  | .laxZpy z => Laws.Table.laxZpy z
  | .clv => Laws.Table.clv
  | .ldaAbsy w => Laws.Table.ldaAbsy w
  | .tsx => Laws.Table.tsx
  | .lasAbsy w => Laws.Table.lasAbsy w
  | .ldyAbsx w => Laws.Table.ldyAbsx w
  | .ldaAbsx w => Laws.Table.ldaAbsx w
  | .ldxAbsy w => Laws.Table.ldxAbsy w
  | .laxAbsy w => Laws.Table.laxAbsy w
  | .cpyImm b => Laws.Table.cpyImm b
  | .cmpIzx z => Laws.Table.cmpIzx z
  | .nopImmC2 b => Laws.Table.nopImmC2 b
  | .dcpIzx z => Laws.Table.dcpIzx z
  | .cpyZp z => Laws.Table.cpyZp z
  | .cmpZp z => Laws.Table.cmpZp z
  | .decZp z => Laws.Table.decZp z
  | .dcpZp z => Laws.Table.dcpZp z
  | .iny => Laws.Table.iny
  | .cmpImm b => Laws.Table.cmpImm b
  | .dex => Laws.Table.dex
  | .sbxImm b => Laws.Table.sbxImm b
  | .cpyAbs w => Laws.Table.cpyAbs w
  | .cmpAbs w => Laws.Table.cmpAbs w
  | .decAbs w => Laws.Table.decAbs w
  | .dcpAbs w => Laws.Table.dcpAbs w
  | .bne r => Laws.Table.bne r
  | .cmpIzy z => Laws.Table.cmpIzy z
  | .jamD2 => Laws.Table.jamD2
  | .dcpIzy z => Laws.Table.dcpIzy z
  | .nopZpxD4 z => Laws.Table.nopZpxD4 z
  | .cmpZpx z => Laws.Table.cmpZpx z
  | .decZpx z => Laws.Table.decZpx z
  | .dcpZpx z => Laws.Table.dcpZpx z
  | .cld => Laws.Table.cld
  | .cmpAbsy w => Laws.Table.cmpAbsy w
  | .nopDA => Laws.Table.nopDA
  | .dcpAbsy w => Laws.Table.dcpAbsy w
  | .nopAbsxDC w => Laws.Table.nopAbsxDC w
  | .cmpAbsx w => Laws.Table.cmpAbsx w
  | .decAbsx w => Laws.Table.decAbsx w
  | .dcpAbsx w => Laws.Table.dcpAbsx w
  | .cpxImm b => Laws.Table.cpxImm b
  | .sbcIzx z => Laws.Table.sbcIzx z
  | .nopImmE2 b => Laws.Table.nopImmE2 b
  | .isbIzx z => Laws.Table.isbIzx z
  | .cpxZp z => Laws.Table.cpxZp z
  | .sbcZp z => Laws.Table.sbcZp z
  | .incZp z => Laws.Table.incZp z
  | .isbZp z => Laws.Table.isbZp z
  | .inx => Laws.Table.inx
  | .sbcImm b => Laws.Table.sbcImm b
  | .nop => Laws.Table.nop
  | .sbcImmEB b => Laws.Table.sbcImmEB b
  | .cpxAbs w => Laws.Table.cpxAbs w
  | .sbcAbs w => Laws.Table.sbcAbs w
  | .incAbs w => Laws.Table.incAbs w
  | .isbAbs w => Laws.Table.isbAbs w
  | .beq r => Laws.Table.beq r
  | .sbcIzy z => Laws.Table.sbcIzy z
  | .jamF2 => Laws.Table.jamF2
  | .isbIzy z => Laws.Table.isbIzy z
  | .nopZpxF4 z => Laws.Table.nopZpxF4 z
  | .sbcZpx z => Laws.Table.sbcZpx z
  | .incZpx z => Laws.Table.incZpx z
  | .isbZpx z => Laws.Table.isbZpx z
  | .sed => Laws.Table.sed
  | .sbcAbsy w => Laws.Table.sbcAbsy w
  | .nopFA => Laws.Table.nopFA
  | .isbAbsy w => Laws.Table.isbAbsy w
  | .nopAbsxFC w => Laws.Table.nopAbsxFC w
  | .sbcAbsx w => Laws.Table.sbcAbsx w
  | .incAbsx w => Laws.Table.incAbsx w
  | .isbAbsx w => Laws.Table.isbAbsx w

theorem decodeOpcode_opcode_zero : ∀ op : Byte, (decodeOpcode op 0#8 0#8).opcode = op := by decide

/-- Every opcode is some instruction's. -/
theorem gives_of_opcode (op : Byte) : ∃ i : Instr, i.opcode = op ∧ Laws.Table.Gives op i (entryOf op).form := by
  have h := table_statement (decodeOpcode op 0#8 0#8)
  have ho := decodeOpcode_opcode_zero op
  refine ⟨_, ho, ?_⟩
  have g := h.2.1
  rwa [ho] at g

/-- What an opcode decodes to has that opcode. -/
@[simp] theorem decodeOpcode_opcode (op b1 b2 : Byte) : (decodeOpcode op b1 b2).opcode = op := by
  obtain ⟨i, ho, hg⟩ := gives_of_opcode op
  unfold decodeOpcode
  cases h : (entryOf op).form with
  | bare j => rw [h] at hg; exact hg.1 ▸ ho
  | byte f => rw [h] at hg; exact (hg.2 b1).1
  | word f => rw [h] at hg; exact (hg.2 (joinBytes b2 b1)).1

/-- The entry of an opcode is an unknown marker exactly when the instruction is not well-formed. -/
theorem isMarker_eq_not_wellFormed (i : Instr) (extra : Bool) :
    (entryOf i.opcode).isMarker extra = !i.wellFormed extra := (table_statement i).2.2 extra

end Sys2Proof
end

