-- ==== Sys2Proof/Laws/Step.lean ====
section
/-! SUPPORT. The five cases of a step as rewriting equations, and what a step can do, said once. -/

namespace Sys2Proof.Machine

@[simp] theorem nmiDue_beginStep (s : State) : nmiDue (beginStep s) = nmiDue s := rfl
@[simp] theorem irqDue_beginStep (s : State) : irqDue (beginStep s) = irqDue s := rfl

theorem nmiDue_iff (s : State) : nmiDue s = true ↔ s.nmiPending = true ∧ s.nmiDelay ≤ 0 := by simp [nmiDue]

theorem irqDue_iff (s : State) : irqDue s = true ↔ s.irqRequest ≠ 0#3 ∧ s.cpu.p.i = false := by simp [irqDue]

/-- R601. -/
theorem step_of_paused {s : State} (h : s.paused = true) : step s = .next (pausedStep s) := by
  unfold step; rw [if_pos h]

/-- R602. -/
theorem step_of_nmi {s : State} (h : s.paused = false) (hn : nmiDue s = true) :
    step s = .next (finishStep true false (serviceNmi (beginStep s))) := by
  unfold step; rw [if_neg (by rw [h]; decide)]; simp only [nmiDue_beginStep, hn, if_true]

/-- R604. -/
theorem step_of_irq {s : State} (h : s.paused = false) (hn : nmiDue s = false) (hi : irqDue s = true) :
    step s = .next (finishStep false true (serviceIrq (beginStep s))) := by
  unfold step; rw [if_neg (by rw [h]; decide)]
  simp only [nmiDue_beginStep, hn, irqDue_beginStep, hi, if_true, Bool.false_eq_true, if_false]

/-- R606. -/
theorem step_of_stall {s : State} (h : s.paused = false) (hn : nmiDue s = false) (hi : irqDue s = false)
    (hs : 0 < s.stallCycles) : step s = .next (finishStall (consumeStall (beginStep s))) := by
  unfold step; rw [if_neg (by rw [h]; decide)]
  simp only [nmiDue_beginStep, hn, irqDue_beginStep, hi, Bool.false_eq_true, if_false, beginStep_stallCycles, hs, if_true]

/-- R607. -/
theorem step_of_fetch {s : State} (h : s.paused = false) (hn : nmiDue s = false) (hi : irqDue s = false)
    (hs : s.stallCycles = 0) :
    step s = finishInstr (exec (fetchInstr (beginStep s)).1 (fetchInstr (beginStep s)).2) := by
  unfold step; rw [if_neg (by rw [h]; decide)]
  simp only [nmiDue_beginStep, hn, irqDue_beginStep, hi, Bool.false_eq_true, if_false, beginStep_stallCycles, hs,
    Nat.lt_irrefl]

/-- Every step is one of the five. -/
theorem step_cases (s : State) :
    (s.paused = true ∧ step s = .next (pausedStep s)) ∨
    (s.paused = false ∧ nmiDue s = true ∧ step s = .next (finishStep true false (serviceNmi (beginStep s)))) ∨
    (s.paused = false ∧ nmiDue s = false ∧ irqDue s = true ∧
      step s = .next (finishStep false true (serviceIrq (beginStep s)))) ∨
    (s.paused = false ∧ nmiDue s = false ∧ irqDue s = false ∧ 0 < s.stallCycles ∧
      step s = .next (finishStall (consumeStall (beginStep s)))) ∨
    (s.paused = false ∧ nmiDue s = false ∧ irqDue s = false ∧ s.stallCycles = 0 ∧
      step s = finishInstr (exec (fetchInstr (beginStep s)).1 (fetchInstr (beginStep s)).2)) := by
  cases h : s.paused
  · cases hn : nmiDue s
    · cases hi : irqDue s
      · rcases Nat.eq_zero_or_pos s.stallCycles with hs | hs
        · exact .inr (.inr (.inr (.inr ⟨rfl, rfl, rfl, hs, step_of_fetch h hn hi hs⟩)))
        · exact .inr (.inr (.inr (.inl ⟨rfl, rfl, rfl, hs, step_of_stall h hn hi hs⟩)))
      · exact .inr (.inr (.inl ⟨rfl, rfl, rfl, step_of_irq h hn hi⟩))
    · exact .inr (.inl ⟨rfl, rfl, step_of_nmi h hn⟩)
  · exact .inl ⟨rfl, step_of_paused h⟩

/-! ## What the interrupt services leave alone -/

theorem serviceNmi_keeps (s : State) :
    Keeps { s with nmiPending := false, nmiDelay := 0 } (serviceNmi s) :=
  (keeps_enterException _ _ _ _).trans (keeps_setCycles _ _)

@[simp] theorem serviceNmi_paused (s : State) : (serviceNmi s).paused = s.paused := (serviceNmi_keeps s).paused
@[simp] theorem serviceNmi_debug (s : State) : (serviceNmi s).debugCfg = s.debugCfg := (serviceNmi_keeps s).debugCfg
@[simp] theorem serviceNmi_cycleTotal (s : State) : (serviceNmi s).cycleTotal = s.cycleTotal := (serviceNmi_keeps s).cycleTotal
@[simp] theorem serviceNmi_faults (s : State) : (serviceNmi s).faults = s.faults := (serviceNmi_keeps s).faults
@[simp] theorem serviceNmi_cart (s : State) : (serviceNmi s).cart = s.cart := (serviceNmi_keeps s).cart
@[simp] theorem serviceNmi_params (s : State) : (serviceNmi s).params = s.params := (serviceNmi_keeps s).params
theorem serviceNmi_kept (s : State) : MapperKept s (serviceNmi s) :=
  have h : MapperSame s { s with nmiPending := false, nmiDelay := 0 } := ⟨rfl, rfl, rfl, rfl⟩
  h.kept.trans (serviceNmi_keeps s).mapper
@[simp] theorem serviceNmi_stepCycles (s : State) : (serviceNmi s).stepCycles = interruptCycles := rfl

@[simp] theorem serviceIrq_paused (s : State) : (serviceIrq s).paused = s.paused := by
  simp only [serviceIrq, State.setCycles_paused, (keeps_enterException irqVector s.cpu.pc false s).paused]
@[simp] theorem serviceIrq_debug (s : State) : (serviceIrq s).debugCfg = s.debugCfg := by
  simp only [serviceIrq, State.setCycles_debug, (keeps_enterException irqVector s.cpu.pc false s).debugCfg]
@[simp] theorem serviceIrq_cycleTotal (s : State) : (serviceIrq s).cycleTotal = s.cycleTotal := by
  simp only [serviceIrq, State.setCycles_cycleTotal, (keeps_enterException irqVector s.cpu.pc false s).cycleTotal]
@[simp] theorem serviceIrq_faults (s : State) : (serviceIrq s).faults = s.faults := by
  simp only [serviceIrq, State.setCycles_faults, (keeps_enterException irqVector s.cpu.pc false s).faults]
@[simp] theorem serviceIrq_cart (s : State) : (serviceIrq s).cart = s.cart := by
  simp only [serviceIrq, State.setCycles_cart, (keeps_enterException irqVector s.cpu.pc false s).cart]
@[simp] theorem serviceIrq_params (s : State) : (serviceIrq s).params = s.params := by
  simp only [serviceIrq, State.setCycles_params, (keeps_enterException irqVector s.cpu.pc false s).params]
@[simp] theorem serviceIrq_irqRequest (s : State) : (serviceIrq s).irqRequest = 0#3 := rfl
@[simp] theorem serviceIrq_stepCycles (s : State) : (serviceIrq s).stepCycles = interruptCycles := rfl

/-- The service of an IRQ clears the request mask; for the rest it is an operation like the others (R604). -/
theorem serviceIrq_mapper (s : State) : (serviceIrq s).mapper.callsBack = s.mapper.callsBack ∧
    (s.mapper.callsBack = false → (serviceIrq s).readSlot = s.readSlot ∧ (serviceIrq s).writeSlot = s.writeSlot) := by
  have k := (keeps_enterException irqVector s.cpu.pc false s).mapper
  simp only [serviceIrq, State.setCycles_mapper, State.setCycles_readSlot, State.setCycles_writeSlot]
  exact ⟨k.callsBack, fun h => ⟨k.readSlot h, k.writeSlot h⟩⟩

theorem serviceIrq_nmi (s : State) (h : s.nmiPending = true) :
    (serviceIrq s).nmiPending = true ∧ (serviceIrq s).nmiDelay = s.nmiDelay := by
  simp only [serviceIrq, State.setCycles_nmiPending, State.setCycles_nmiDelay]
  exact (keeps_enterException irqVector s.cpu.pc false s).nmi h

@[simp] theorem finishStep_cpu (nmi irq : Bool) (s : State) : (finishStep nmi irq s).cpu = s.cpu := rfl
@[simp] theorem finishStep_nmiPending (nmi irq : Bool) (s : State) : (finishStep nmi irq s).nmiPending = s.nmiPending := rfl
@[simp] theorem finishStep_irqRequest (nmi irq : Bool) (s : State) : (finishStep nmi irq s).irqRequest = s.irqRequest := rfl
@[simp] theorem finishStep_stallCycles (nmi irq : Bool) (s : State) : (finishStep nmi irq s).stallCycles = s.stallCycles := rfl
@[simp] theorem finishStep_debug (nmi irq : Bool) (s : State) : (finishStep nmi irq s).debugCfg = s.debugCfg := rfl
@[simp] theorem finishStep_faults (nmi irq : Bool) (s : State) : (finishStep nmi irq s).faults = s.faults := rfl
@[simp] theorem finishStep_stepCycles (nmi irq : Bool) (s : State) : (finishStep nmi irq s).stepCycles = s.stepCycles := rfl
@[simp] theorem finishStep_trace (nmi irq : Bool) (s : State) : (finishStep nmi irq s).trace = s.trace := rfl
@[simp] theorem finishStep_readSlot (nmi irq : Bool) (s : State) : (finishStep nmi irq s).readSlot = s.readSlot := rfl
@[simp] theorem finishStep_writeSlot (nmi irq : Bool) (s : State) : (finishStep nmi irq s).writeSlot = s.writeSlot := rfl
@[simp] theorem finishStep_ram (nmi irq : Bool) (s : State) : (finishStep nmi irq s).ram = s.ram := rfl
@[simp] theorem finishStep_prgRam (nmi irq : Bool) (s : State) : (finishStep nmi irq s).prgRam = s.prgRam := rfl
@[simp] theorem finishStep_flat (nmi irq : Bool) (s : State) : (finishStep nmi irq s).flat = s.flat := rfl
@[simp] theorem finishStep_ppu (nmi irq : Bool) (s : State) : (finishStep nmi irq s).ppu = s.ppu := rfl
@[simp] theorem finishStep_cart (nmi irq : Bool) (s : State) : (finishStep nmi irq s).cart = s.cart := rfl
@[simp] theorem finishStep_mapper (nmi irq : Bool) (s : State) : (finishStep nmi irq s).mapper = s.mapper := rfl
@[simp] theorem finishStep_deviceLog (nmi irq : Bool) (s : State) : (finishStep nmi irq s).deviceLog = s.deviceLog := rfl
@[simp] theorem finishStep_params (nmi irq : Bool) (s : State) : (finishStep nmi irq s).params = s.params := rfl
@[simp] theorem finishStep_cycleTotal (nmi irq : Bool) (s : State) :
    (finishStep nmi irq s).cycleTotal = s.cycleTotal + s.stepCycles := rfl
@[simp] theorem finishStep_paused (nmi irq : Bool) (s : State) :
    (finishStep nmi irq s).paused = (s.paused || debugHit nmi irq (account nmi s)) := rfl
@[simp] theorem finishStep_nmiDelay (nmi irq : Bool) (s : State) :
    (finishStep nmi irq s).nmiDelay = if s.nmiPending && !nmi then s.nmiDelay - (s.stepCycles : Int) else s.nmiDelay := rfl

/-! ## The parts of a step and the invariant -/

theorem beginStep_inv {s : State} (h : s.Inv) : (beginStep s).Inv := h

theorem account_inv (taken : Bool) {s : State} (h : s.Inv) : (account taken s).Inv := by
  obtain ⟨h1, h2, h3, h4, h5, h6, h7, h8, h9, h10, hz, hd⟩ := h
  refine ⟨h1, h2, h3, h4, h5, h6, h7, h8, h9, h10, ?_, ?_⟩
  · intro h
    have h' : s.nmiPending = false := h
    simp [account, h', hz h']
  · simp only [account]
    split
    · exact le_trans (sub_le_self _ (Int.natCast_nonneg _)) hd
    · exact hd

theorem finishStep_inv (nmi irq : Bool) {s : State} (h : s.Inv) : (finishStep nmi irq s).Inv := account_inv nmi h

theorem finishStall_inv {s : State} (h : s.Inv) : (finishStall s).Inv := account_inv false h

theorem serviceNmi_inv {s : State} (h : s.Inv) : (serviceNmi s).Inv := by
  have hs : ({ s with nmiPending := false, nmiDelay := 0 } : State).Inv := by
    obtain ⟨h1, h2, h3, h4, h5, h6, h7, h8, h9, h10, -, -⟩ := h
    exact ⟨h1, h2, h3, h4, h5, h6, h7, h8, h9, h10, fun _ => rfl, (by decide : (0 : Int) ≤ nmiLatchDelay)⟩
  exact (keeps_setCycles _ _).inv ((keeps_enterException _ _ _ _).inv hs)

theorem State.inv_withIrq {s : State} (m : BitVec 3) (h : s.Inv) : ({ s with irqRequest := m } : State).Inv := h

theorem serviceIrq_inv {s : State} (h : s.Inv) : (serviceIrq s).Inv :=
  State.inv_withIrq 0#3
    ((keeps_setCycles interruptCycles _).inv ((keeps_enterException irqVector s.cpu.pc false s).inv h))

theorem exec_inv {i : Instr} {s t : State} (h : s.Inv) (he : exec i s = .next t) : t.Inv := by
  obtain ⟨u, hu, e⟩ := exec_effect i s
  rw [hu] at he
  cases he
  cases e with
  | completed _ k => exact k.inv h
  | halted _ k => subst k; exact h

/-- An unknown marker halts (R608). -/
theorem exec_marker {i : Instr} {s : State} (hm : i.wellFormed s.params.extraUnofficial = false) :
    exec i s = .next (haltIllegal i.opcode s) := by
  obtain ⟨u, hu, e⟩ := exec_effect i s
  cases e with
  | completed hw _ => rw [hm] at hw; cases hw
  | halted _ k => rw [hu, k]

/-! ## The fetch -/

/-- A read at the start of a step. -/
theorem busRead_beginStep (a : Word) (s : State) :
    busRead a (beginStep s) = ((busRead a s).1, beginStep (busRead a s).2) := by
  have h := busRead_withCore a (beginStep s) s
  have r := busRead_readsOnly a s
  have e : (beginStep s).withCore s = beginStep s := rfl
  rw [e] at h
  rw [h]
  simp only [State.withCore, beginStep, r.cpu, r.paused, r.debugCfg, r.faults]


/-- The opcode of the fetched instruction is the byte at PC. -/
theorem fetchInstr_opcode (s : State) : (fetchInstr s).1.opcode = (busRead s.cpu.pc s).1 := by
  unfold fetchInstr
  simp only
  split
  · exact decodeOpcode_opcode _ _ _
  · split <;> rename_i h
    · have := decodeOpcode_opcode (cpuRead s.cpu.pc s).1 0#8 0#8
      simp only [decodeOpcode, h] at this
      exact this
    · have := decodeOpcode_opcode (cpuRead s.cpu.pc s).1 (cpuRead (s.cpu.pc + 1#16) (cpuRead s.cpu.pc s).2).1 0#8
      simp only [decodeOpcode, h] at this
      exact this
    · have := decodeOpcode_opcode (cpuRead s.cpu.pc s).1 (cpuRead (s.cpu.pc + 1#16) (cpuRead s.cpu.pc s).2).1
        (cpuRead (s.cpu.pc + 2#16) (cpuRead (s.cpu.pc + 1#16) (cpuRead s.cpu.pc s).2).2).1
      simp only [decodeOpcode, h] at this
      exact this

end Sys2Proof.Machine
end

