-- ==== Sys2Proof/Laws/Blind.lean ====
section
/-! SUPPORT. No bus access, no shared operation and no instruction looks at the debug configuration or at the fault records:
each commutes with replacing the one and putting older records before the others. -/

namespace Sys2Proof.Machine

/-- A debug configuration, and fault records older than those of a state. -/
structure Records where
  debugCfg : Debug
  faults   : List Fault

/-- `s` with a debug configuration in place of its own and records before its own. -/
def withRecords (d : Records) (s : State) : State := { s with debugCfg := d.debugCfg, faults := d.faults ++ s.faults }

/-- `f` commutes with `withRecords`. -/
def Blind (f : State → State) : Prop := ∀ d s, f (withRecords d s) = withRecords d (f s)

theorem Blind.comp {f g : State → State} (hf : Blind f) (hg : Blind g) : Blind fun s => g (f s) :=
  fun d s => by show g (f (withRecords d s)) = _; rw [hf d s, hg d (f s)]

@[simp] theorem withRecords_cpu (d : Records) (s : State) : (withRecords d s).cpu = s.cpu := rfl
@[simp] theorem withRecords_params (d : Records) (s : State) : (withRecords d s).params = s.params := rfl
@[simp] theorem withRecords_trace (d : Records) (s : State) : (withRecords d s).trace = s.trace := rfl
@[simp] theorem withRecords_debug (d : Records) (s : State) : (withRecords d s).debugCfg = d.debugCfg := rfl
@[simp] theorem withRecords_faults (d : Records) (s : State) : (withRecords d s).faults = d.faults ++ s.faults := rfl

/-- Replacing the debug configuration alone. -/
theorem setDebug_eq_withRecords (d : Debug) (s : State) : setDebug d s = withRecords ⟨d, []⟩ s := rfl

/-- Replacing the fault records alone. -/
theorem withFaults_eq_withRecords (l : List Fault) (s : State) :
    { s with faults := l } = withRecords ⟨s.debugCfg, l⟩ { s with faults := [] } := by simp [withRecords]

theorem busRead_withRecords (a : Word) (d : Records) (s : State) :
    busRead a (withRecords d s) = ((busRead a s).1, withRecords d (busRead a s).2) := by
  have h := busRead_withCore a (withRecords d s) s
  have r := busRead_readsOnly a s
  have e : (withRecords d s).withCore s = withRecords d s := rfl
  rw [e] at h
  rw [h]
  simp only [State.withCore, withRecords, r.cpu, r.paused, r.faults, r.stepCycles, busRead_trace]

theorem busWrite_withRecords (a : Word) (v : Byte) (d : Records) (s : State) :
    busWrite a v (withRecords d s) = withRecords d (busWrite a v s) := by
  have h := busWrite_withCore a v (withRecords d s) s
  have e : (withRecords d s).withCore s = withRecords d s := rfl
  rw [e] at h
  rw [h]
  simp only [State.withCore, withRecords, busWrite_cpu, busWrite_paused, busWrite_faults,
    busWrite_stepCycles, busWrite_trace]

theorem cpuRead_withRecords (a : Word) (d : Records) (s : State) :
    cpuRead a (withRecords d s) = ((cpuRead a s).1, withRecords d (cpuRead a s).2) := by
  simp only [cpuRead, busRead_withRecords]
  rfl

theorem blind_cpuWrite (a : Word) (v : Byte) : Blind (cpuWrite a v) := fun d s => by
  simp only [cpuWrite, busWrite_withRecords]
  rfl

theorem cpuReadWord_withRecords (a : Word) (d : Records) (s : State) :
    cpuReadWord a (withRecords d s) = ((cpuReadWord a s).1, withRecords d (cpuReadWord a s).2) := by
  simp only [cpuReadWord, cpuRead_withRecords]

theorem cpuReadZeroPageWord_withRecords (p : Byte) (d : Records) (s : State) :
    cpuReadZeroPageWord p (withRecords d s) = ((cpuReadZeroPageWord p s).1, withRecords d (cpuReadZeroPageWord p s).2) := by
  simp only [cpuReadZeroPageWord, cpuRead_withRecords]

theorem cpuReadPageWrappedWord_withRecords (p : Word) (d : Records) (s : State) :
    cpuReadPageWrappedWord p (withRecords d s) =
      ((cpuReadPageWrappedWord p s).1, withRecords d (cpuReadPageWrappedWord p s).2) := by
  simp only [cpuReadPageWrappedWord, cpuRead_withRecords]

theorem blind_push (v : Byte) : Blind (push v) := fun d s =>
  congrArg (State.setSp (s.cpu.sp - 1#8)) (blind_cpuWrite (stackAddress s.cpu.sp) v d s)

theorem pull_withRecords (d : Records) (s : State) : pull (withRecords d s) = ((pull s).1, withRecords d (pull s).2) :=
  cpuRead_withRecords (stackAddress (s.cpu.sp + 1#8)) d (s.setSp (s.cpu.sp + 1#8))

theorem blind_push16 (w : Word) : Blind (push16 w) := (blind_push (hiByte w)).comp (blind_push (loByte w))

theorem pull16_withRecords (d : Records) (s : State) : pull16 (withRecords d s) = ((pull16 s).1, withRecords d (pull16 s).2) := by
  simp only [pull16, pull_withRecords]

theorem blind_enterException (vector ret : Word) (b : Bool) : Blind (enterException vector ret b) := fun d s => by
  have h1 := blind_push16 ret d s
  have h2 := blind_push (pack b (push16 ret s).cpu.p) d (push16 ret s)
  simp only [enterException, h1]
  rw [show (withRecords d (push16 ret s)).cpu = (push16 ret s).cpu from rfl, h2]
  generalize push (pack b (push16 ret s).cpu.p) (push16 ret s) = t
  have h3 := cpuReadWord_withRecords vector d (t.setFlags { t.cpu.p with i := true })
  exact congrArg (fun v : Word × State => v.2.setPc v.1) h3

theorem blind_serviceBreak :
    Blind fun s => (enterException irqVector (s.cpu.pc + 2#16) true s).setCycles (entryOf 0x00#8).cycles := fun d s => by
  have h := blind_enterException irqVector (s.cpu.pc + 2#16) true d s
  simp only [withRecords_cpu, h]
  generalize enterException irqVector (s.cpu.pc + 2#16) true s = t
  rfl

theorem blind_returnFromException : Blind returnFromException := fun d s => by
  simp only [returnFromException, pull_withRecords]
  generalize pull s = p
  have h := pull16_withRecords d (p.2.setFlags (unpack p.1))
  exact congrArg (fun v : Word × State => v.2.setPc v.1) h

theorem blind_haltIllegal (op : Byte) : Blind (haltIllegal op) := fun d s => by
  simp only [haltIllegal, withRecords, List.append_assoc]

theorem blind_completeAt (pc : Word) (c : Nat) : Blind (completeAt pc c) := fun _ _ => rfl

theorem blind_complete (op : Byte) (x : Bool) : Blind (complete op x) := fun _ _ => rfl

theorem effectiveAddress_withRecords (m : MemOperand) (d : Records) (s : State) :
    effectiveAddress m (withRecords d s) =
      { effectiveAddress m s with st := withRecords d (effectiveAddress m s).st } := by
  cases m
  case izx z => simp only [effectiveAddress, withRecords_cpu, cpuReadZeroPageWord_withRecords]
  case izy z => simp only [effectiveAddress, indexed, cpuReadZeroPageWord_withRecords, withRecords_cpu]
  all_goals rfl

theorem readSource_withRecords (o : Source) (d : Records) (s : State) :
    readSource o (withRecords d s) = { readSource o s with st := withRecords d (readSource o s).st } := by
  cases o
  case imm b => rfl
  case mem m => simp only [readSource, effectiveAddress_withRecords, cpuRead_withRecords]

theorem blind_withSource (op : Byte) (o : Source) (f : Byte → State → State) (hf : ∀ m, Blind (f m)) :
    Blind (withSource op o f) := fun d s => by
  simp only [withSource, readSource_withRecords, hf _ d _]
  rfl

theorem blind_storeAt (op : Byte) (m : MemOperand) (v : Byte) : Blind (storeAt op m v) := fun d s => by
  simp only [storeAt, effectiveAddress_withRecords, blind_cpuWrite _ _ d _]
  rfl

theorem blind_modifyAt (op : Byte) (m : MemOperand) (core : Byte → Flags → Byte × Flags)
    (after : Byte → State → State) (hf : ∀ v, Blind (after v)) : Blind (modifyAt op m core after) := fun d s => by
  simp only [modifyAt, effectiveAddress_withRecords, cpuRead_withRecords, withRecords_cpu, blind_cpuWrite _ _ d _]
  rw [← blind_complete, ← hf]
  rfl

/-- A change of A and the flags computed from A, a byte and the flags. -/
theorem blind_setAFlags (g : Byte → Byte → Flags → Byte × Flags) (r : Byte) :
    Blind fun t => t.setAFlags (g t.cpu.a r t.cpu.p) := fun _ _ => rfl

theorem blind_shiftA (op : Byte) (core : Byte → Flags → Byte × Flags) : Blind (shiftA op core) := fun _ _ => rfl

theorem blind_pullA :
    Blind fun s => complete 0x68#8 false ((pull s).2.setAFlags ((pull s).1, setNZ (pull s).1 (pull s).2.cpu.p)) :=
  fun d s => by
    simp only [pull_withRecords]
    exact blind_complete 0x68#8 false d ((pull s).2.setAFlags ((pull s).1, setNZ (pull s).1 (pull s).2.cpu.p))

theorem blind_pullReturn :
    Blind fun s => completeAt ((pull16 s).1 + 1#16) (entryOf 0x60#8).cycles (pull16 s).2 := fun d s => by
  simp only [pull16_withRecords]
  exact blind_completeAt _ _ d (pull16 s).2

theorem blind_pullStatus : Blind fun s => complete 0x28#8 false ((pull s).2.setFlags (unpack (pull s).1)) := fun d s => by
  simp only [pull_withRecords]
  exact blind_complete 0x28#8 false d ((pull s).2.setFlags (unpack (pull s).1))

theorem blind_branch (op : Byte) (taken : Bool) (r : Byte) : Blind (branch op taken r) := fun d s => by
  cases taken <;> rfl

theorem blind_whenExtra (op : Byte) (f : State → State) (hf : Blind f) : Blind (whenExtra op f) := fun d s => by
  unfold whenExtra
  rw [show (withRecords d s).params = s.params from rfl]
  split
  · exact hf d s
  · exact blind_haltIllegal op d s

theorem blind_opLda (op : Byte) (o : Source) : Blind (opLda op o) :=
  blind_withSource _ _ _ fun _ _ _ => rfl

theorem blind_opLdx (op : Byte) (o : Source) : Blind (opLdx op o) :=
  blind_withSource _ _ _ fun _ _ _ => rfl

theorem blind_opLdy (op : Byte) (o : Source) : Blind (opLdy op o) :=
  blind_withSource _ _ _ fun _ _ _ => rfl

theorem blind_opAdc (op : Byte) (o : Source) : Blind (opAdc op o) :=
  have h : Blind (withSource op o fun m t => t.setAFlags (addCore t.cpu.a m t.cpu.p)) :=
    blind_withSource op o _ (blind_setAFlags addCore)
  h

theorem blind_opSbc (op : Byte) (o : Source) : Blind (opSbc op o) :=
  have h : Blind (withSource op o fun m t => t.setAFlags (subCore t.cpu.a m t.cpu.p)) :=
    blind_withSource op o _ (blind_setAFlags subCore)
  h

theorem blind_opAnd (op : Byte) (o : Source) : Blind (opAnd op o) :=
  have h : Blind (withSource op o fun m t => t.setAFlags (t.cpu.a &&& m, setNZ (t.cpu.a &&& m) t.cpu.p)) :=
    blind_withSource op o _ (blind_setAFlags fun a r p => (a &&& r, setNZ (a &&& r) p))
  h

theorem blind_opOra (op : Byte) (o : Source) : Blind (opOra op o) :=
  have h : Blind (withSource op o fun m t => t.setAFlags (t.cpu.a ||| m, setNZ (t.cpu.a ||| m) t.cpu.p)) :=
    blind_withSource op o _ (blind_setAFlags fun a r p => (a ||| r, setNZ (a ||| r) p))
  h

theorem blind_opEor (op : Byte) (o : Source) : Blind (opEor op o) :=
  have h : Blind (withSource op o fun m t => t.setAFlags (t.cpu.a ^^^ m, setNZ (t.cpu.a ^^^ m) t.cpu.p)) :=
    blind_withSource op o _ (blind_setAFlags fun a r p => (a ^^^ r, setNZ (a ^^^ r) p))
  h

theorem blind_opCmp (op : Byte) (o : Source) : Blind (opCmp op o) :=
  blind_withSource _ _ _ fun _ _ _ => rfl

theorem blind_opCpx (op : Byte) (o : Source) : Blind (opCpx op o) :=
  blind_withSource _ _ _ fun _ _ _ => rfl

theorem blind_opCpy (op : Byte) (o : Source) : Blind (opCpy op o) :=
  blind_withSource _ _ _ fun _ _ _ => rfl

theorem blind_opBit (op : Byte) (o : Source) : Blind (opBit op o) :=
  blind_withSource _ _ _ fun _ _ _ => rfl

theorem blind_opLax (op : Byte) (o : Source) : Blind (opLax op o) :=
  blind_withSource _ _ _ fun _ _ _ => rfl

theorem blind_opLas (op : Byte) (o : Source) : Blind (opLas op o) :=
  blind_withSource _ _ _ fun _ _ _ => rfl

theorem blind_opNopRead (op : Byte) (o : Source) : Blind (opNopRead op o) :=
  blind_withSource _ _ _ fun _ _ _ => rfl

theorem blind_opSta (op : Byte) (m : MemOperand) : Blind (opSta op m) :=
  fun d s => blind_storeAt op m s.cpu.a d s

theorem blind_opStx (op : Byte) (m : MemOperand) : Blind (opStx op m) :=
  fun d s => blind_storeAt op m s.cpu.x d s

theorem blind_opSty (op : Byte) (m : MemOperand) : Blind (opSty op m) :=
  fun d s => blind_storeAt op m s.cpu.y d s

theorem blind_opSax (op : Byte) (m : MemOperand) : Blind (opSax op m) :=
  fun d s => blind_storeAt op m (s.cpu.a &&& s.cpu.x) d s

theorem blind_opInc (op : Byte) (m : MemOperand) : Blind (opInc op m) :=
  have h : Blind (modifyAt op m incCore fun _ t => t) :=
    blind_modifyAt op m incCore _ (fun _ _ _ => rfl)
  h

theorem blind_opDec (op : Byte) (m : MemOperand) : Blind (opDec op m) :=
  have h : Blind (modifyAt op m decCore fun _ t => t) :=
    blind_modifyAt op m decCore _ (fun _ _ _ => rfl)
  h

theorem blind_opAsl (op : Byte) (m : MemOperand) : Blind (opAsl op m) :=
  have h : Blind (modifyAt op m aslCore fun _ t => t) :=
    blind_modifyAt op m aslCore _ (fun _ _ _ => rfl)
  h

theorem blind_opLsr (op : Byte) (m : MemOperand) : Blind (opLsr op m) :=
  have h : Blind (modifyAt op m lsrCore fun _ t => t) :=
    blind_modifyAt op m lsrCore _ (fun _ _ _ => rfl)
  h

theorem blind_opRol (op : Byte) (m : MemOperand) : Blind (opRol op m) :=
  have h : Blind (modifyAt op m rolCore fun _ t => t) :=
    blind_modifyAt op m rolCore _ (fun _ _ _ => rfl)
  h

theorem blind_opRor (op : Byte) (m : MemOperand) : Blind (opRor op m) :=
  have h : Blind (modifyAt op m rorCore fun _ t => t) :=
    blind_modifyAt op m rorCore _ (fun _ _ _ => rfl)
  h

theorem blind_opDcp (op : Byte) (m : MemOperand) : Blind (opDcp op m) :=
  have h : Blind (modifyAt op m decCore fun r t => t.setFlags (compareCore t.cpu.a r t.cpu.p)) :=
    blind_modifyAt op m decCore _ (fun _ _ _ => rfl)
  h

theorem blind_opIsb (op : Byte) (m : MemOperand) : Blind (opIsb op m) :=
  have h : Blind (modifyAt op m incCore fun r t => t.setAFlags (subCore t.cpu.a r t.cpu.p)) :=
    blind_modifyAt op m incCore _ (blind_setAFlags subCore)
  h

theorem blind_opSlo (op : Byte) (m : MemOperand) : Blind (opSlo op m) :=
  have h : Blind (modifyAt op m aslCore fun r t => t.setAFlags (t.cpu.a ||| r, setNZ (t.cpu.a ||| r) t.cpu.p)) :=
    blind_modifyAt op m aslCore _ (blind_setAFlags fun a r p => (a ||| r, setNZ (a ||| r) p))
  h

theorem blind_opRla (op : Byte) (m : MemOperand) : Blind (opRla op m) :=
  have h : Blind (modifyAt op m rolCore fun r t => t.setAFlags (t.cpu.a &&& r, setNZ (t.cpu.a &&& r) t.cpu.p)) :=
    blind_modifyAt op m rolCore _ (blind_setAFlags fun a r p => (a &&& r, setNZ (a &&& r) p))
  h

theorem blind_opSre (op : Byte) (m : MemOperand) : Blind (opSre op m) :=
  have h : Blind (modifyAt op m lsrCore fun r t => t.setAFlags (t.cpu.a ^^^ r, setNZ (t.cpu.a ^^^ r) t.cpu.p)) :=
    blind_modifyAt op m lsrCore _ (blind_setAFlags fun a r p => (a ^^^ r, setNZ (a ^^^ r) p))
  h

theorem blind_opRra (op : Byte) (m : MemOperand) : Blind (opRra op m) :=
  have h : Blind (modifyAt op m rorCore fun r t => t.setAFlags (addCore t.cpu.a r t.cpu.p)) :=
    blind_modifyAt op m rorCore _ (blind_setAFlags addCore)
  h

/-- What an instruction answers, and what it answers with other records. -/
theorem exec_withRecords : ∀ (i : Instr) (d : Records) (s : State),
    ∃ t, exec i s = .next t ∧ exec i (withRecords d s) = .next (withRecords d t)
  | .brk, d, s => ⟨_, rfl, congrArg Host.Outcome.next (blind_serviceBreak d s)⟩
  | .oraIzx _, d, s | .oraZp _, d, s | .oraImm _, d, s | .oraAbs _, d, s | .oraIzy _, d, s | .oraZpx _, d, s
  | .oraAbsy _, d, s | .oraAbsx _, d, s => ⟨_, rfl, congrArg Host.Outcome.next (blind_opOra _ _ d s)⟩
  | .jam02, d, s | .jam12, d, s | .jam22, d, s | .jam32, d, s | .jam42, d, s | .jam52, d, s | .jam62, d, s
  | .jam72, d, s | .jam92, d, s | .jamB2, d, s | .jamD2, d, s | .jamF2, d, s => ⟨_, rfl, congrArg Host.Outcome.next (blind_haltIllegal _ d s)⟩
  | .sloIzx _, d, s | .sloZp _, d, s | .sloAbs _, d, s | .sloIzy _, d, s | .sloZpx _, d, s | .sloAbsy _, d, s
  | .sloAbsx _, d, s => ⟨_, rfl, congrArg Host.Outcome.next (blind_opSlo _ _ d s)⟩
  | .nopZp04 _, d, s | .nopAbs _, d, s | .nopZpx14 _, d, s | .nopAbsx1C _, d, s | .nopZpx34 _, d, s
  | .nopAbsx3C _, d, s | .nopZp44 _, d, s | .nopZpx54 _, d, s | .nopAbsx5C _, d, s | .nopZp64 _, d, s
  | .nopZpx74 _, d, s | .nopAbsx7C _, d, s | .nopImm80 _, d, s | .nopImm82 _, d, s | .nopImm89 _, d, s
  | .nopImmC2 _, d, s | .nopZpxD4 _, d, s | .nopAbsxDC _, d, s | .nopImmE2 _, d, s | .nopZpxF4 _, d, s
  | .nopAbsxFC _, d, s => ⟨_, rfl, congrArg Host.Outcome.next (blind_opNopRead _ _ d s)⟩
  | .nop1A, d, s | .nop3A, d, s | .nop5A, d, s | .nop7A, d, s | .nopDA, d, s | .nop, d, s | .nopFA, d, s
    => ⟨_, rfl, congrArg Host.Outcome.next (blind_complete _ _ d s)⟩
  | .aslZp _, d, s | .aslAbs _, d, s | .aslZpx _, d, s | .aslAbsx _, d, s
    => ⟨_, rfl, congrArg Host.Outcome.next (blind_opAsl _ _ d s)⟩
  | .aslAcc, d, s => ⟨_, rfl, congrArg Host.Outcome.next (blind_shiftA _ _ d s)⟩
  | .php, d, s => ⟨_, rfl, congrArg Host.Outcome.next (congrArg (complete _ _) (blind_push _ d s))⟩
  | .ancImm0B _, d, s | .ancImm2B _, d, s
    => ⟨_, rfl, congrArg Host.Outcome.next (blind_whenExtra _ _ (fun _ _ => rfl) d s)⟩
  | .bpl _, d, s => ⟨_, rfl, congrArg Host.Outcome.next (blind_branch _ _ _ d s)⟩
  | .clc, _, _ => ⟨_, rfl, rfl⟩
  | .jsr _, d, s => ⟨_, rfl, congrArg Host.Outcome.next (congrArg (completeAt _ _) (blind_push16 _ d s))⟩
  | .andIzx _, d, s | .andZp _, d, s | .andImm _, d, s | .andAbs _, d, s | .andIzy _, d, s | .andZpx _, d, s
  | .andAbsy _, d, s | .andAbsx _, d, s => ⟨_, rfl, congrArg Host.Outcome.next (blind_opAnd _ _ d s)⟩
  | .rlaIzx _, d, s | .rlaZp _, d, s | .rlaAbs _, d, s | .rlaIzy _, d, s | .rlaZpx _, d, s | .rlaAbsy _, d, s
  | .rlaAbsx _, d, s => ⟨_, rfl, congrArg Host.Outcome.next (blind_opRla _ _ d s)⟩
  | .bitZp _, d, s | .bitAbs _, d, s => ⟨_, rfl, congrArg Host.Outcome.next (blind_opBit _ _ d s)⟩
  | .rolZp _, d, s | .rolAbs _, d, s | .rolZpx _, d, s | .rolAbsx _, d, s
    => ⟨_, rfl, congrArg Host.Outcome.next (blind_opRol _ _ d s)⟩
  | .rolAcc, d, s => ⟨_, rfl, congrArg Host.Outcome.next (blind_shiftA _ _ d s)⟩
  | .plp, d, s => ⟨_, rfl, congrArg Host.Outcome.next (blind_pullStatus d s)⟩
  | .bmi _, d, s => ⟨_, rfl, congrArg Host.Outcome.next (blind_branch _ _ _ d s)⟩
  | .sec, _, _ => ⟨_, rfl, rfl⟩
  | .rti, d, s => ⟨_, rfl, congrArg Host.Outcome.next (congrArg (State.setCycles _) (blind_returnFromException d s))⟩
  | .eorIzx _, d, s | .eorZp _, d, s | .eorImm _, d, s | .eorAbs _, d, s | .eorIzy _, d, s | .eorZpx _, d, s
  | .eorAbsy _, d, s | .eorAbsx _, d, s => ⟨_, rfl, congrArg Host.Outcome.next (blind_opEor _ _ d s)⟩
  | .sreIzx _, d, s | .sreZp _, d, s | .sreAbs _, d, s | .sreIzy _, d, s | .sreZpx _, d, s | .sreAbsy _, d, s
  | .sreAbsx _, d, s => ⟨_, rfl, congrArg Host.Outcome.next (blind_opSre _ _ d s)⟩
  | .lsrZp _, d, s | .lsrAbs _, d, s | .lsrZpx _, d, s | .lsrAbsx _, d, s
    => ⟨_, rfl, congrArg Host.Outcome.next (blind_opLsr _ _ d s)⟩
  | .lsrAcc, d, s => ⟨_, rfl, congrArg Host.Outcome.next (blind_shiftA _ _ d s)⟩
  | .pha, d, s => ⟨_, rfl, congrArg Host.Outcome.next (congrArg (complete _ _) (blind_push _ d s))⟩
  | .alrImm _, d, s => ⟨_, rfl, congrArg Host.Outcome.next (blind_whenExtra _ _ (fun _ _ => rfl) d s)⟩
  | .jmpAbs _, _, _ => ⟨_, rfl, rfl⟩
  | .jmpInd w, d, s => ⟨_, rfl, congrArg Host.Outcome.next (congrArg (fun p => completeAt p.1 (entryOf 0x6C#8).cycles p.2)
      (cpuReadPageWrappedWord_withRecords w d s))⟩
  | .bvc _, d, s => ⟨_, rfl, congrArg Host.Outcome.next (blind_branch _ _ _ d s)⟩
  | .cli, _, _ => ⟨_, rfl, rfl⟩
  | .rts, d, s => ⟨_, rfl, congrArg Host.Outcome.next (blind_pullReturn d s)⟩
  | .adcIzx _, d, s | .adcZp _, d, s | .adcImm _, d, s | .adcAbs _, d, s | .adcIzy _, d, s | .adcZpx _, d, s
  | .adcAbsy _, d, s | .adcAbsx _, d, s => ⟨_, rfl, congrArg Host.Outcome.next (blind_opAdc _ _ d s)⟩
  | .rraIzx _, d, s | .rraZp _, d, s | .rraAbs _, d, s | .rraIzy _, d, s | .rraZpx _, d, s | .rraAbsy _, d, s
  | .rraAbsx _, d, s => ⟨_, rfl, congrArg Host.Outcome.next (blind_opRra _ _ d s)⟩
  | .rorZp _, d, s | .rorAbs _, d, s | .rorZpx _, d, s | .rorAbsx _, d, s
    => ⟨_, rfl, congrArg Host.Outcome.next (blind_opRor _ _ d s)⟩
  | .rorAcc, d, s => ⟨_, rfl, congrArg Host.Outcome.next (blind_shiftA _ _ d s)⟩
  | .pla, d, s => ⟨_, rfl, congrArg Host.Outcome.next (blind_pullA d s)⟩
  | .arrImm _, d, s => ⟨_, rfl, congrArg Host.Outcome.next (blind_whenExtra _ _ (fun _ _ => rfl) d s)⟩
  | .bvs _, d, s => ⟨_, rfl, congrArg Host.Outcome.next (blind_branch _ _ _ d s)⟩
  | .sei, _, _ => ⟨_, rfl, rfl⟩
  | .staIzx _, d, s | .staZp _, d, s | .staAbs _, d, s | .staIzy _, d, s | .staZpx _, d, s | .staAbsy _, d, s
  | .staAbsx _, d, s => ⟨_, rfl, congrArg Host.Outcome.next (blind_opSta _ _ d s)⟩
  | .saxIzx _, d, s | .saxZp _, d, s | .saxAbs _, d, s | .saxZpy _, d, s
    => ⟨_, rfl, congrArg Host.Outcome.next (blind_opSax _ _ d s)⟩
  | .styZp _, d, s | .styAbs _, d, s | .styZpx _, d, s => ⟨_, rfl, congrArg Host.Outcome.next (blind_opSty _ _ d s)⟩
  | .stxZp _, d, s | .stxAbs _, d, s | .stxZpy _, d, s => ⟨_, rfl, congrArg Host.Outcome.next (blind_opStx _ _ d s)⟩
  | .dey, _, _ => ⟨_, rfl, rfl⟩
  | .txa, _, _ => ⟨_, rfl, rfl⟩
  | .ane, d, s => ⟨_, rfl, congrArg Host.Outcome.next (blind_haltIllegal _ d s)⟩
  | .bcc _, d, s => ⟨_, rfl, congrArg Host.Outcome.next (blind_branch _ _ _ d s)⟩
  | .sha93, d, s | .sha9F, d, s => ⟨_, rfl, congrArg Host.Outcome.next (blind_haltIllegal _ d s)⟩
  | .tya, _, _ => ⟨_, rfl, rfl⟩
  | .txs, _, _ => ⟨_, rfl, rfl⟩
  | .tas, d, s => ⟨_, rfl, congrArg Host.Outcome.next (blind_haltIllegal _ d s)⟩
  | .shy, d, s => ⟨_, rfl, congrArg Host.Outcome.next (blind_haltIllegal _ d s)⟩
  | .shx, d, s => ⟨_, rfl, congrArg Host.Outcome.next (blind_haltIllegal _ d s)⟩
  | .ldyImm _, d, s | .ldyZp _, d, s | .ldyAbs _, d, s | .ldyZpx _, d, s | .ldyAbsx _, d, s
    => ⟨_, rfl, congrArg Host.Outcome.next (blind_opLdy _ _ d s)⟩
  | .ldaIzx _, d, s | .ldaZp _, d, s | .ldaImm _, d, s | .ldaAbs _, d, s | .ldaIzy _, d, s | .ldaZpx _, d, s
  | .ldaAbsy _, d, s | .ldaAbsx _, d, s => ⟨_, rfl, congrArg Host.Outcome.next (blind_opLda _ _ d s)⟩
  | .ldxImm _, d, s | .ldxZp _, d, s | .ldxAbs _, d, s | .ldxZpy _, d, s | .ldxAbsy _, d, s
    => ⟨_, rfl, congrArg Host.Outcome.next (blind_opLdx _ _ d s)⟩
  | .laxIzx _, d, s | .laxZp _, d, s | .laxAbs _, d, s | .laxIzy _, d, s | .laxZpy _, d, s | .laxAbsy _, d, s
    => ⟨_, rfl, congrArg Host.Outcome.next (blind_opLax _ _ d s)⟩
  | .tay, _, _ => ⟨_, rfl, rfl⟩
  | .tax, _, _ => ⟨_, rfl, rfl⟩
  | .lxa, d, s => ⟨_, rfl, congrArg Host.Outcome.next (blind_haltIllegal _ d s)⟩
  | .bcs _, d, s => ⟨_, rfl, congrArg Host.Outcome.next (blind_branch _ _ _ d s)⟩
  | .clv, _, _ => ⟨_, rfl, rfl⟩
  | .tsx, _, _ => ⟨_, rfl, rfl⟩
  | .lasAbsy _, d, s => ⟨_, rfl, congrArg Host.Outcome.next (blind_whenExtra _ _ (blind_opLas _ _) d s)⟩
  | .cpyImm _, d, s | .cpyZp _, d, s | .cpyAbs _, d, s => ⟨_, rfl, congrArg Host.Outcome.next (blind_opCpy _ _ d s)⟩
  | .cmpIzx _, d, s | .cmpZp _, d, s | .cmpImm _, d, s | .cmpAbs _, d, s | .cmpIzy _, d, s | .cmpZpx _, d, s
  | .cmpAbsy _, d, s | .cmpAbsx _, d, s => ⟨_, rfl, congrArg Host.Outcome.next (blind_opCmp _ _ d s)⟩
  | .dcpIzx _, d, s | .dcpZp _, d, s | .dcpAbs _, d, s | .dcpIzy _, d, s | .dcpZpx _, d, s | .dcpAbsy _, d, s
  | .dcpAbsx _, d, s => ⟨_, rfl, congrArg Host.Outcome.next (blind_opDcp _ _ d s)⟩
  | .decZp _, d, s | .decAbs _, d, s | .decZpx _, d, s | .decAbsx _, d, s
    => ⟨_, rfl, congrArg Host.Outcome.next (blind_opDec _ _ d s)⟩
  | .iny, _, _ => ⟨_, rfl, rfl⟩
  | .dex, _, _ => ⟨_, rfl, rfl⟩
  | .sbxImm _, d, s => ⟨_, rfl, congrArg Host.Outcome.next (blind_whenExtra _ _ (fun _ _ => rfl) d s)⟩
  | .bne _, d, s => ⟨_, rfl, congrArg Host.Outcome.next (blind_branch _ _ _ d s)⟩
  | .cld, _, _ => ⟨_, rfl, rfl⟩
  | .cpxImm _, d, s | .cpxZp _, d, s | .cpxAbs _, d, s => ⟨_, rfl, congrArg Host.Outcome.next (blind_opCpx _ _ d s)⟩
  | .sbcIzx _, d, s | .sbcZp _, d, s | .sbcImm _, d, s | .sbcImmEB _, d, s | .sbcAbs _, d, s | .sbcIzy _, d, s
  | .sbcZpx _, d, s | .sbcAbsy _, d, s | .sbcAbsx _, d, s
    => ⟨_, rfl, congrArg Host.Outcome.next (blind_opSbc _ _ d s)⟩
  | .isbIzx _, d, s | .isbZp _, d, s | .isbAbs _, d, s | .isbIzy _, d, s | .isbZpx _, d, s | .isbAbsy _, d, s
  | .isbAbsx _, d, s => ⟨_, rfl, congrArg Host.Outcome.next (blind_opIsb _ _ d s)⟩
  | .incZp _, d, s | .incAbs _, d, s | .incZpx _, d, s | .incAbsx _, d, s
    => ⟨_, rfl, congrArg Host.Outcome.next (blind_opInc _ _ d s)⟩
  | .inx, _, _ => ⟨_, rfl, rfl⟩
  | .beq _, d, s => ⟨_, rfl, congrArg Host.Outcome.next (blind_branch _ _ _ d s)⟩
  | .sed, _, _ => ⟨_, rfl, rfl⟩

/-- What an instruction answers under another debug configuration. -/
theorem exec_setDebug (i : Instr) (d : Debug) (s : State) :
    ∃ t, exec i s = .next t ∧ exec i (setDebug d s) = .next (setDebug d t) := exec_withRecords i ⟨d, []⟩ s

theorem fetchInstr_withRecords (d : Records) (s : State) :
    fetchInstr (withRecords d s) = ((fetchInstr s).1, withRecords d (fetchInstr s).2) := by
  simp only [fetchInstr, cpuRead_withRecords, withRecords_cpu, withRecords_params]
  split
  · rfl
  · split <;> rfl

theorem fetchInstr_setDebug (d : Debug) (s : State) :
    fetchInstr (setDebug d s) = ((fetchInstr s).1, setDebug d (fetchInstr s).2) := fetchInstr_withRecords ⟨d, []⟩ s

end Sys2Proof.Machine
end

