-- ==== Sys2Proof/Laws/Cycles.lean ====
section
/-! SUPPORT. An instruction takes at least its table entry's base cycles, and those are at least two (R610, R709, R710). -/

namespace Sys2Proof.Machine

theorem base_le_complete (op : Byte) (x : Bool) (s : State) : (entryOf op).cycles ≤ (complete op x s).stepCycles :=
  Nat.le_add_right _ _

theorem base_le_withSource (op : Byte) (o : Source) (f : Byte → State → State) (s : State) :
    (entryOf op).cycles ≤ (withSource op o f s).stepCycles := base_le_complete _ _ _

theorem base_le_storeAt (op : Byte) (m : MemOperand) (v : Byte) (s : State) :
    (entryOf op).cycles ≤ (storeAt op m v s).stepCycles := base_le_complete _ _ _

theorem base_le_modifyAt (op : Byte) (m : MemOperand) (core : Byte → Flags → Byte × Flags)
    (after : Byte → State → State) (s : State) : (entryOf op).cycles ≤ (modifyAt op m core after s).stepCycles :=
  base_le_complete _ _ _

theorem base_le_branch (op : Byte) (taken : Bool) (r : Byte) (s : State) :
    (entryOf op).cycles ≤ (branch op taken r s).stepCycles := by
  unfold branch
  simp only
  split
  · exact Nat.le_add_right _ _
  · exact Nat.le_refl _

theorem base_le_whenExtra {i : Instr} {s : State} (op : Byte) (hw : ∀ e, i.wellFormed e = e) (f : State → State)
    (hf : ∀ s, (entryOf op).cycles ≤ (f s).stepCycles) (h : i.wellFormed s.params.extraUnofficial = true) :
    (entryOf op).cycles ≤ (whenExtra op f s).stepCycles := by
  rw [hw] at h
  rw [whenExtra, if_pos h]
  exact hf s

/-- A well-formed instruction counts at least its base cycles. -/
theorem base_le_exec : ∀ (i : Instr) (s : State), ∃ t, exec i s = .next t ∧
    (i.wellFormed s.params.extraUnofficial = true → (entryOf i.opcode).cycles ≤ t.stepCycles)
  | .brk, _ => ⟨_, rfl, fun _ => Nat.le_refl _⟩
  | .oraIzx _, _ | .oraZp _, _ | .oraImm _, _ | .oraAbs _, _ | .oraIzy _, _ | .oraZpx _, _ | .oraAbsy _, _
  | .oraAbsx _, _ => ⟨_, rfl, fun _ => base_le_withSource _ _ _ _⟩
  | .jam02, _ | .jam12, _ | .jam22, _ | .jam32, _ | .jam42, _ | .jam52, _ | .jam62, _ | .jam72, _ | .jam92, _
  | .jamB2, _ | .jamD2, _ | .jamF2, _ => ⟨_, rfl, fun h => Bool.noConfusion h⟩
  | .sloIzx _, _ | .sloZp _, _ | .sloAbs _, _ | .sloIzy _, _ | .sloZpx _, _ | .sloAbsy _, _ | .sloAbsx _, _
    => ⟨_, rfl, fun _ => base_le_modifyAt _ _ _ _ _⟩
  | .nopZp04 _, _ | .nopAbs _, _ | .nopZpx14 _, _ | .nopAbsx1C _, _ | .nopZpx34 _, _ | .nopAbsx3C _, _
  | .nopZp44 _, _ | .nopZpx54 _, _ | .nopAbsx5C _, _ | .nopZp64 _, _ | .nopZpx74 _, _ | .nopAbsx7C _, _
  | .nopImm80 _, _ | .nopImm82 _, _ | .nopImm89 _, _ | .nopImmC2 _, _ | .nopZpxD4 _, _ | .nopAbsxDC _, _
  | .nopImmE2 _, _ | .nopZpxF4 _, _ | .nopAbsxFC _, _ => ⟨_, rfl, fun _ => base_le_withSource _ _ _ _⟩
  | .nop1A, _ | .nop3A, _ | .nop5A, _ | .nop7A, _ | .nopDA, _ | .nop, _ | .nopFA, _
    => ⟨_, rfl, fun _ => base_le_complete _ _ _⟩
  | .aslZp _, _ | .aslAbs _, _ | .aslZpx _, _ | .aslAbsx _, _ => ⟨_, rfl, fun _ => base_le_modifyAt _ _ _ _ _⟩
  | .aslAcc, _ => ⟨_, rfl, fun _ => base_le_complete _ _ _⟩
  | .php, _ => ⟨_, rfl, fun _ => base_le_complete _ _ _⟩
  | .ancImm0B _, _ | .ancImm2B _, _ => ⟨_, rfl, base_le_whenExtra _ (fun _ => rfl) _ fun _ => base_le_complete _ _ _⟩
  | .bpl _, _ => ⟨_, rfl, fun _ => base_le_branch _ _ _ _⟩
  | .clc, _ => ⟨_, rfl, fun _ => base_le_complete _ _ _⟩
  | .jsr _, _ => ⟨_, rfl, fun _ => Nat.le_refl _⟩
  | .andIzx _, _ | .andZp _, _ | .andImm _, _ | .andAbs _, _ | .andIzy _, _ | .andZpx _, _ | .andAbsy _, _
  | .andAbsx _, _ => ⟨_, rfl, fun _ => base_le_withSource _ _ _ _⟩
  | .rlaIzx _, _ | .rlaZp _, _ | .rlaAbs _, _ | .rlaIzy _, _ | .rlaZpx _, _ | .rlaAbsy _, _ | .rlaAbsx _, _
    => ⟨_, rfl, fun _ => base_le_modifyAt _ _ _ _ _⟩
  | .bitZp _, _ | .bitAbs _, _ => ⟨_, rfl, fun _ => base_le_withSource _ _ _ _⟩
  | .rolZp _, _ | .rolAbs _, _ | .rolZpx _, _ | .rolAbsx _, _ => ⟨_, rfl, fun _ => base_le_modifyAt _ _ _ _ _⟩
  | .rolAcc, _ => ⟨_, rfl, fun _ => base_le_complete _ _ _⟩
  | .plp, _ => ⟨_, rfl, fun _ => base_le_complete _ _ _⟩
  | .bmi _, _ => ⟨_, rfl, fun _ => base_le_branch _ _ _ _⟩
  | .sec, _ => ⟨_, rfl, fun _ => base_le_complete _ _ _⟩
  | .rti, _ => ⟨_, rfl, fun _ => Nat.le_refl _⟩
  | .eorIzx _, _ | .eorZp _, _ | .eorImm _, _ | .eorAbs _, _ | .eorIzy _, _ | .eorZpx _, _ | .eorAbsy _, _
  | .eorAbsx _, _ => ⟨_, rfl, fun _ => base_le_withSource _ _ _ _⟩
  | .sreIzx _, _ | .sreZp _, _ | .sreAbs _, _ | .sreIzy _, _ | .sreZpx _, _ | .sreAbsy _, _ | .sreAbsx _, _
    => ⟨_, rfl, fun _ => base_le_modifyAt _ _ _ _ _⟩
  | .lsrZp _, _ | .lsrAbs _, _ | .lsrZpx _, _ | .lsrAbsx _, _ => ⟨_, rfl, fun _ => base_le_modifyAt _ _ _ _ _⟩
  | .lsrAcc, _ => ⟨_, rfl, fun _ => base_le_complete _ _ _⟩
  | .pha, _ => ⟨_, rfl, fun _ => base_le_complete _ _ _⟩
  | .alrImm _, _ => ⟨_, rfl, base_le_whenExtra _ (fun _ => rfl) _ fun _ => base_le_complete _ _ _⟩
  | .jmpAbs _, _ | .jmpInd _, _ => ⟨_, rfl, fun _ => Nat.le_refl _⟩
  | .bvc _, _ => ⟨_, rfl, fun _ => base_le_branch _ _ _ _⟩
  | .cli, _ => ⟨_, rfl, fun _ => base_le_complete _ _ _⟩
  | .rts, _ => ⟨_, rfl, fun _ => Nat.le_refl _⟩
  | .adcIzx _, _ | .adcZp _, _ | .adcImm _, _ | .adcAbs _, _ | .adcIzy _, _ | .adcZpx _, _ | .adcAbsy _, _
  | .adcAbsx _, _ => ⟨_, rfl, fun _ => base_le_withSource _ _ _ _⟩
  | .rraIzx _, _ | .rraZp _, _ | .rraAbs _, _ | .rraIzy _, _ | .rraZpx _, _ | .rraAbsy _, _ | .rraAbsx _, _
    => ⟨_, rfl, fun _ => base_le_modifyAt _ _ _ _ _⟩
  | .rorZp _, _ | .rorAbs _, _ | .rorZpx _, _ | .rorAbsx _, _ => ⟨_, rfl, fun _ => base_le_modifyAt _ _ _ _ _⟩
  | .rorAcc, _ => ⟨_, rfl, fun _ => base_le_complete _ _ _⟩
  | .pla, _ => ⟨_, rfl, fun _ => base_le_complete _ _ _⟩
  | .arrImm _, _ => ⟨_, rfl, base_le_whenExtra _ (fun _ => rfl) _ fun _ => base_le_complete _ _ _⟩
  | .bvs _, _ => ⟨_, rfl, fun _ => base_le_branch _ _ _ _⟩
  | .sei, _ => ⟨_, rfl, fun _ => base_le_complete _ _ _⟩
  | .staIzx _, _ | .staZp _, _ | .staAbs _, _ | .staIzy _, _ | .staZpx _, _ | .staAbsy _, _ | .staAbsx _, _
    => ⟨_, rfl, fun _ => base_le_storeAt _ _ _ _⟩
  | .saxIzx _, _ | .saxZp _, _ | .saxAbs _, _ | .saxZpy _, _ => ⟨_, rfl, fun _ => base_le_storeAt _ _ _ _⟩
  | .styZp _, _ | .styAbs _, _ | .styZpx _, _ => ⟨_, rfl, fun _ => base_le_storeAt _ _ _ _⟩
  | .stxZp _, _ | .stxAbs _, _ | .stxZpy _, _ => ⟨_, rfl, fun _ => base_le_storeAt _ _ _ _⟩
  | .dey, _ => ⟨_, rfl, fun _ => base_le_complete _ _ _⟩
  | .txa, _ => ⟨_, rfl, fun _ => base_le_complete _ _ _⟩
  | .ane, _ => ⟨_, rfl, fun h => Bool.noConfusion h⟩
  | .bcc _, _ => ⟨_, rfl, fun _ => base_le_branch _ _ _ _⟩
  | .sha93, _ | .sha9F, _ => ⟨_, rfl, fun h => Bool.noConfusion h⟩
  | .tya, _ => ⟨_, rfl, fun _ => base_le_complete _ _ _⟩
  | .txs, _ => ⟨_, rfl, fun _ => base_le_complete _ _ _⟩
  | .tas, _ => ⟨_, rfl, fun h => Bool.noConfusion h⟩
  | .shy, _ => ⟨_, rfl, fun h => Bool.noConfusion h⟩
  | .shx, _ => ⟨_, rfl, fun h => Bool.noConfusion h⟩
  | .ldyImm _, _ | .ldyZp _, _ | .ldyAbs _, _ | .ldyZpx _, _ | .ldyAbsx _, _
    => ⟨_, rfl, fun _ => base_le_withSource _ _ _ _⟩
  | .ldaIzx _, _ | .ldaZp _, _ | .ldaImm _, _ | .ldaAbs _, _ | .ldaIzy _, _ | .ldaZpx _, _ | .ldaAbsy _, _
  | .ldaAbsx _, _ => ⟨_, rfl, fun _ => base_le_withSource _ _ _ _⟩
  | .ldxImm _, _ | .ldxZp _, _ | .ldxAbs _, _ | .ldxZpy _, _ | .ldxAbsy _, _
    => ⟨_, rfl, fun _ => base_le_withSource _ _ _ _⟩
  | .laxIzx _, _ | .laxZp _, _ | .laxAbs _, _ | .laxIzy _, _ | .laxZpy _, _ | .laxAbsy _, _
    => ⟨_, rfl, fun _ => base_le_withSource _ _ _ _⟩
  | .tay, _ => ⟨_, rfl, fun _ => base_le_complete _ _ _⟩
  | .tax, _ => ⟨_, rfl, fun _ => base_le_complete _ _ _⟩
  | .lxa, _ => ⟨_, rfl, fun h => Bool.noConfusion h⟩
  | .bcs _, _ => ⟨_, rfl, fun _ => base_le_branch _ _ _ _⟩
  | .clv, _ => ⟨_, rfl, fun _ => base_le_complete _ _ _⟩
  | .tsx, _ => ⟨_, rfl, fun _ => base_le_complete _ _ _⟩
  | .lasAbsy _, _ => ⟨_, rfl, base_le_whenExtra _ (fun _ => rfl) _ fun _ => base_le_withSource _ _ _ _⟩
  | .cpyImm _, _ | .cpyZp _, _ | .cpyAbs _, _ => ⟨_, rfl, fun _ => base_le_withSource _ _ _ _⟩
  | .cmpIzx _, _ | .cmpZp _, _ | .cmpImm _, _ | .cmpAbs _, _ | .cmpIzy _, _ | .cmpZpx _, _ | .cmpAbsy _, _
  | .cmpAbsx _, _ => ⟨_, rfl, fun _ => base_le_withSource _ _ _ _⟩
  | .dcpIzx _, _ | .dcpZp _, _ | .dcpAbs _, _ | .dcpIzy _, _ | .dcpZpx _, _ | .dcpAbsy _, _ | .dcpAbsx _, _
    => ⟨_, rfl, fun _ => base_le_modifyAt _ _ _ _ _⟩
  | .decZp _, _ | .decAbs _, _ | .decZpx _, _ | .decAbsx _, _ => ⟨_, rfl, fun _ => base_le_modifyAt _ _ _ _ _⟩
  | .iny, _ => ⟨_, rfl, fun _ => base_le_complete _ _ _⟩
  | .dex, _ => ⟨_, rfl, fun _ => base_le_complete _ _ _⟩
  | .sbxImm _, _ => ⟨_, rfl, base_le_whenExtra _ (fun _ => rfl) _ fun _ => base_le_complete _ _ _⟩
  | .bne _, _ => ⟨_, rfl, fun _ => base_le_branch _ _ _ _⟩
  | .cld, _ => ⟨_, rfl, fun _ => base_le_complete _ _ _⟩
  | .cpxImm _, _ | .cpxZp _, _ | .cpxAbs _, _ => ⟨_, rfl, fun _ => base_le_withSource _ _ _ _⟩
  | .sbcIzx _, _ | .sbcZp _, _ | .sbcImm _, _ | .sbcImmEB _, _ | .sbcAbs _, _ | .sbcIzy _, _ | .sbcZpx _, _
  | .sbcAbsy _, _ | .sbcAbsx _, _ => ⟨_, rfl, fun _ => base_le_withSource _ _ _ _⟩
  | .isbIzx _, _ | .isbZp _, _ | .isbAbs _, _ | .isbIzy _, _ | .isbZpx _, _ | .isbAbsy _, _ | .isbAbsx _, _
    => ⟨_, rfl, fun _ => base_le_modifyAt _ _ _ _ _⟩
  | .incZp _, _ | .incAbs _, _ | .incZpx _, _ | .incAbsx _, _ => ⟨_, rfl, fun _ => base_le_modifyAt _ _ _ _ _⟩
  | .inx, _ => ⟨_, rfl, fun _ => base_le_complete _ _ _⟩
  | .beq _, _ => ⟨_, rfl, fun _ => base_le_branch _ _ _ _⟩
  | .sed, _ => ⟨_, rfl, fun _ => base_le_complete _ _ _⟩

theorem two_le_base : ∀ op : Byte, (entryOf op).isMarker true = false → 2 ≤ (entryOf op).cycles := by decide

/-- A well-formed instruction takes at least two cycles (R610). -/
theorem two_le_exec {i : Instr} {s t : State} (hw : i.wellFormed s.params.extraUnofficial = true)
    (h : exec i s = .next t) : 2 ≤ t.stepCycles := by
  obtain ⟨u, hu, hc⟩ := base_le_exec i s
  rw [hu] at h
  cases h
  have hm : i.wellFormed true = true := by
    simp only [Instr.wellFormed, Bool.and_eq_true] at hw
    simp [Instr.wellFormed, hw.1]
  refine (two_le_base i.opcode ?_).trans (hc hw)
  rw [isMarker_eq_not_wellFormed, hm]
  rfl

end Sys2Proof.Machine
end

