-- ==== Sys2Proof/Laws/Flags.lean ====
section
/-! SUPPORT. The flag computations in integer terms: one lemma per computation, so that no proof unfolds one. -/

namespace Sys2Proof.Machine

theorem bit7_eq (v : Byte) : v.getLsbD 7 = decide (128 ≤ v.toNat) := by
  rw [← BitVec.msb_eq_getLsbD_last v, BitVec.msb_eq_decide]

theorem bit6_eq (v : Byte) : v.getLsbD 6 = decide (v.toNat / 64 % 2 = 1) := by
  simp [BitVec.getLsbD, Nat.testBit, Nat.shiftRight_eq_div_pow]; rw [Bool.eq_iff_iff]; simp

theorem bit0_eq (v : Byte) : v.getLsbD 0 = decide (v.toNat % 2 = 1) := by
  simp [BitVec.getLsbD, Nat.testBit]; rw [Bool.eq_iff_iff]; simp

/-- N and Z of a byte (R18). -/
theorem setNZ_eq (v : Byte) (p : Flags) :
    setNZ v p = { p with z := decide (v.toNat = 0), n := decide (128 ≤ v.toNat) } := by
  have h1 : (v == 0#8) = decide (v.toNat = 0) := by
    rw [Bool.eq_iff_iff]; simp [← BitVec.toNat_inj]
  simp only [setNZ, h1, bit7_eq]

/-- CompareCore (R231). -/
theorem compareCore_eq (r m : Byte) (p : Flags) :
    compareCore r m p =
      { p with c := decide (m.toNat ≤ r.toNat), z := decide (r = m), n := decide (128 ≤ (r.toNat + 256 - m.toNat) % 256) } := by
  have h1 : (r == m) = decide (r = m) := by rw [Bool.eq_iff_iff]; simp
  have h2 : (r - m).toNat = (r.toNat + 256 - m.toNat) % 256 := by rw [BitVec.toNat_sub]; congr 1; omega
  simp only [compareCore, h1, bit7_eq, h2]

/-- BIT (R248). -/
theorem bitCore_eq (a m : Byte) (p : Flags) :
    bitCore a m p =
      { p with z := decide (a &&& m = 0#8), n := decide (128 ≤ m.toNat), v := decide (m.toNat / 64 % 2 = 1) } := by
  have h : ((a &&& m) == 0#8) = decide (a &&& m = 0#8) := by rw [Bool.eq_iff_iff]; simp
  simp only [bitCore, bit7_eq, bit6_eq, h]

/-- AddCore (R230): the sum modulo 256, C when it exceeds 255, V by the signs. -/
theorem addCore_eq (a m : Byte) (p : Flags) :
    (addCore a m p).1 = BitVec.ofNat 8 (a.toNat + m.toNat + p.c.toNat) ∧
    (addCore a m p).2 =
      { p with
        z := decide ((BitVec.ofNat 8 (a.toNat + m.toNat + p.c.toNat)).toNat = 0)
        n := decide (128 ≤ (BitVec.ofNat 8 (a.toNat + m.toNat + p.c.toNat)).toNat)
        c := decide (255 < a.toNat + m.toNat + p.c.toNat)
        v := decide (a.msb = m.msb ∧ (BitVec.ofNat 8 (a.toNat + m.toNat + p.c.toNat)).msb ≠ a.msb) } := by
  refine ⟨rfl, ?_⟩
  simp only [addCore, setNZ_eq]
  congr 1
  generalize BitVec.ofNat 8 (a.toNat + m.toNat + p.c.toNat) = r
  have key : ∀ q : Byte, ((q &&& 128#8) != 0#8) = q.msb := by decide
  rw [key]
  simp only [BitVec.msb_and, BitVec.msb_not, BitVec.msb_xor]
  cases a.msb <;> cases m.msb <;> cases r.msb <;> rfl

/-- What the status pushes store is read back with B and R as pushed (R48, R49). -/
theorem unpack_pack (b : Bool) (p : Flags) : unpack (pack b p) = { p with b := b, r := true } := by
  have h : ∀ c z i d v n b : Bool,
      unpack (pack b ⟨c, z, i, d, false, false, v, n⟩) = ⟨c, z, i, d, b, true, v, n⟩ := by decide
  exact h p.c p.z p.i p.d p.v p.n b

end Sys2Proof.Machine
end

