-- ==== Sys2Proof/Tests/Slice0.lean ====
section
/-! SUPPORT. Small tests: the well-formedness smoke, the decoding of every opcode written out from the spec's encoding lines,
single steps with the values of spec/95_test_vectors.md, and a witness for every statement that has hypotheses. -/

open Sys2Proof Sys2Proof.Machine Sys2Proof.Rules

namespace Sys2Proof.Tests

/-! ## Decoding: every opcode with the bytes 0x34 and 0x12 after it (R150, R151, R152, the encoding lines) -/

theorem test_decode_page_0 :
  decode [0x00#8, 0x34#8, 0x12#8] = .ok .brk [0x12#8] ∧
  decode [0x01#8, 0x34#8, 0x12#8] = .ok (.oraIzx 0x34#8) [0x12#8] ∧
  decode [0x02#8, 0x34#8, 0x12#8] = .ok .jam02 [0x34#8, 0x12#8] ∧
  decode [0x03#8, 0x34#8, 0x12#8] = .ok (.sloIzx 0x34#8) [0x12#8] ∧
  decode [0x04#8, 0x34#8, 0x12#8] = .ok (.nopZp04 0x34#8) [0x12#8] ∧
  decode [0x05#8, 0x34#8, 0x12#8] = .ok (.oraZp 0x34#8) [0x12#8] ∧
  decode [0x06#8, 0x34#8, 0x12#8] = .ok (.aslZp 0x34#8) [0x12#8] ∧
  decode [0x07#8, 0x34#8, 0x12#8] = .ok (.sloZp 0x34#8) [0x12#8] ∧
  decode [0x08#8, 0x34#8, 0x12#8] = .ok .php [0x34#8, 0x12#8] ∧
  decode [0x09#8, 0x34#8, 0x12#8] = .ok (.oraImm 0x34#8) [0x12#8] ∧
  decode [0x0A#8, 0x34#8, 0x12#8] = .ok .aslAcc [0x34#8, 0x12#8] ∧
  decode [0x0B#8, 0x34#8, 0x12#8] = .ok (.ancImm0B 0x34#8) [0x12#8] ∧
  decode [0x0C#8, 0x34#8, 0x12#8] = .ok (.nopAbs 0x1234#16) [] ∧
  decode [0x0D#8, 0x34#8, 0x12#8] = .ok (.oraAbs 0x1234#16) [] ∧
  decode [0x0E#8, 0x34#8, 0x12#8] = .ok (.aslAbs 0x1234#16) [] ∧
  decode [0x0F#8, 0x34#8, 0x12#8] = .ok (.sloAbs 0x1234#16) [] := by decide

theorem test_decode_page_1 :
  decode [0x10#8, 0x34#8, 0x12#8] = .ok (.bpl 0x34#8) [0x12#8] ∧
  decode [0x11#8, 0x34#8, 0x12#8] = .ok (.oraIzy 0x34#8) [0x12#8] ∧
  decode [0x12#8, 0x34#8, 0x12#8] = .ok .jam12 [0x34#8, 0x12#8] ∧
  decode [0x13#8, 0x34#8, 0x12#8] = .ok (.sloIzy 0x34#8) [0x12#8] ∧
  decode [0x14#8, 0x34#8, 0x12#8] = .ok (.nopZpx14 0x34#8) [0x12#8] ∧
  decode [0x15#8, 0x34#8, 0x12#8] = .ok (.oraZpx 0x34#8) [0x12#8] ∧
  decode [0x16#8, 0x34#8, 0x12#8] = .ok (.aslZpx 0x34#8) [0x12#8] ∧
  decode [0x17#8, 0x34#8, 0x12#8] = .ok (.sloZpx 0x34#8) [0x12#8] ∧
  decode [0x18#8, 0x34#8, 0x12#8] = .ok .clc [0x34#8, 0x12#8] ∧
  decode [0x19#8, 0x34#8, 0x12#8] = .ok (.oraAbsy 0x1234#16) [] ∧
  decode [0x1A#8, 0x34#8, 0x12#8] = .ok .nop1A [0x34#8, 0x12#8] ∧
  decode [0x1B#8, 0x34#8, 0x12#8] = .ok (.sloAbsy 0x1234#16) [] ∧
  decode [0x1C#8, 0x34#8, 0x12#8] = .ok (.nopAbsx1C 0x1234#16) [] ∧
  decode [0x1D#8, 0x34#8, 0x12#8] = .ok (.oraAbsx 0x1234#16) [] ∧
  decode [0x1E#8, 0x34#8, 0x12#8] = .ok (.aslAbsx 0x1234#16) [] ∧
  decode [0x1F#8, 0x34#8, 0x12#8] = .ok (.sloAbsx 0x1234#16) [] := by decide

theorem test_decode_page_2 :
  decode [0x20#8, 0x34#8, 0x12#8] = .ok (.jsr 0x1234#16) [] ∧
  decode [0x21#8, 0x34#8, 0x12#8] = .ok (.andIzx 0x34#8) [0x12#8] ∧
  decode [0x22#8, 0x34#8, 0x12#8] = .ok .jam22 [0x34#8, 0x12#8] ∧
  decode [0x23#8, 0x34#8, 0x12#8] = .ok (.rlaIzx 0x34#8) [0x12#8] ∧
  decode [0x24#8, 0x34#8, 0x12#8] = .ok (.bitZp 0x34#8) [0x12#8] ∧
  decode [0x25#8, 0x34#8, 0x12#8] = .ok (.andZp 0x34#8) [0x12#8] ∧
  decode [0x26#8, 0x34#8, 0x12#8] = .ok (.rolZp 0x34#8) [0x12#8] ∧
  decode [0x27#8, 0x34#8, 0x12#8] = .ok (.rlaZp 0x34#8) [0x12#8] ∧
  decode [0x28#8, 0x34#8, 0x12#8] = .ok .plp [0x34#8, 0x12#8] ∧
  decode [0x29#8, 0x34#8, 0x12#8] = .ok (.andImm 0x34#8) [0x12#8] ∧
  decode [0x2A#8, 0x34#8, 0x12#8] = .ok .rolAcc [0x34#8, 0x12#8] ∧
  decode [0x2B#8, 0x34#8, 0x12#8] = .ok (.ancImm2B 0x34#8) [0x12#8] ∧
  decode [0x2C#8, 0x34#8, 0x12#8] = .ok (.bitAbs 0x1234#16) [] ∧
  decode [0x2D#8, 0x34#8, 0x12#8] = .ok (.andAbs 0x1234#16) [] ∧
  decode [0x2E#8, 0x34#8, 0x12#8] = .ok (.rolAbs 0x1234#16) [] ∧
  decode [0x2F#8, 0x34#8, 0x12#8] = .ok (.rlaAbs 0x1234#16) [] := by decide

theorem test_decode_page_3 :
  decode [0x30#8, 0x34#8, 0x12#8] = .ok (.bmi 0x34#8) [0x12#8] ∧
  decode [0x31#8, 0x34#8, 0x12#8] = .ok (.andIzy 0x34#8) [0x12#8] ∧
  decode [0x32#8, 0x34#8, 0x12#8] = .ok .jam32 [0x34#8, 0x12#8] ∧
  decode [0x33#8, 0x34#8, 0x12#8] = .ok (.rlaIzy 0x34#8) [0x12#8] ∧
  decode [0x34#8, 0x34#8, 0x12#8] = .ok (.nopZpx34 0x34#8) [0x12#8] ∧
  decode [0x35#8, 0x34#8, 0x12#8] = .ok (.andZpx 0x34#8) [0x12#8] ∧
  decode [0x36#8, 0x34#8, 0x12#8] = .ok (.rolZpx 0x34#8) [0x12#8] ∧
  decode [0x37#8, 0x34#8, 0x12#8] = .ok (.rlaZpx 0x34#8) [0x12#8] ∧
  decode [0x38#8, 0x34#8, 0x12#8] = .ok .sec [0x34#8, 0x12#8] ∧
  decode [0x39#8, 0x34#8, 0x12#8] = .ok (.andAbsy 0x1234#16) [] ∧
  decode [0x3A#8, 0x34#8, 0x12#8] = .ok .nop3A [0x34#8, 0x12#8] ∧
  decode [0x3B#8, 0x34#8, 0x12#8] = .ok (.rlaAbsy 0x1234#16) [] ∧
  decode [0x3C#8, 0x34#8, 0x12#8] = .ok (.nopAbsx3C 0x1234#16) [] ∧
  decode [0x3D#8, 0x34#8, 0x12#8] = .ok (.andAbsx 0x1234#16) [] ∧
  decode [0x3E#8, 0x34#8, 0x12#8] = .ok (.rolAbsx 0x1234#16) [] ∧
  decode [0x3F#8, 0x34#8, 0x12#8] = .ok (.rlaAbsx 0x1234#16) [] := by decide

theorem test_decode_page_4 :
  decode [0x40#8, 0x34#8, 0x12#8] = .ok .rti [0x34#8, 0x12#8] ∧
  decode [0x41#8, 0x34#8, 0x12#8] = .ok (.eorIzx 0x34#8) [0x12#8] ∧
  decode [0x42#8, 0x34#8, 0x12#8] = .ok .jam42 [0x34#8, 0x12#8] ∧
  decode [0x43#8, 0x34#8, 0x12#8] = .ok (.sreIzx 0x34#8) [0x12#8] ∧
  decode [0x44#8, 0x34#8, 0x12#8] = .ok (.nopZp44 0x34#8) [0x12#8] ∧
  decode [0x45#8, 0x34#8, 0x12#8] = .ok (.eorZp 0x34#8) [0x12#8] ∧
  decode [0x46#8, 0x34#8, 0x12#8] = .ok (.lsrZp 0x34#8) [0x12#8] ∧
  decode [0x47#8, 0x34#8, 0x12#8] = .ok (.sreZp 0x34#8) [0x12#8] ∧
  decode [0x48#8, 0x34#8, 0x12#8] = .ok .pha [0x34#8, 0x12#8] ∧
  decode [0x49#8, 0x34#8, 0x12#8] = .ok (.eorImm 0x34#8) [0x12#8] ∧
  decode [0x4A#8, 0x34#8, 0x12#8] = .ok .lsrAcc [0x34#8, 0x12#8] ∧
  decode [0x4B#8, 0x34#8, 0x12#8] = .ok (.alrImm 0x34#8) [0x12#8] ∧
  decode [0x4C#8, 0x34#8, 0x12#8] = .ok (.jmpAbs 0x1234#16) [] ∧
  decode [0x4D#8, 0x34#8, 0x12#8] = .ok (.eorAbs 0x1234#16) [] ∧
  decode [0x4E#8, 0x34#8, 0x12#8] = .ok (.lsrAbs 0x1234#16) [] ∧
  decode [0x4F#8, 0x34#8, 0x12#8] = .ok (.sreAbs 0x1234#16) [] := by decide

theorem test_decode_page_5 :
  decode [0x50#8, 0x34#8, 0x12#8] = .ok (.bvc 0x34#8) [0x12#8] ∧
  decode [0x51#8, 0x34#8, 0x12#8] = .ok (.eorIzy 0x34#8) [0x12#8] ∧
  decode [0x52#8, 0x34#8, 0x12#8] = .ok .jam52 [0x34#8, 0x12#8] ∧
  decode [0x53#8, 0x34#8, 0x12#8] = .ok (.sreIzy 0x34#8) [0x12#8] ∧
  decode [0x54#8, 0x34#8, 0x12#8] = .ok (.nopZpx54 0x34#8) [0x12#8] ∧
  decode [0x55#8, 0x34#8, 0x12#8] = .ok (.eorZpx 0x34#8) [0x12#8] ∧
  decode [0x56#8, 0x34#8, 0x12#8] = .ok (.lsrZpx 0x34#8) [0x12#8] ∧
  decode [0x57#8, 0x34#8, 0x12#8] = .ok (.sreZpx 0x34#8) [0x12#8] ∧
  decode [0x58#8, 0x34#8, 0x12#8] = .ok .cli [0x34#8, 0x12#8] ∧
  decode [0x59#8, 0x34#8, 0x12#8] = .ok (.eorAbsy 0x1234#16) [] ∧
  decode [0x5A#8, 0x34#8, 0x12#8] = .ok .nop5A [0x34#8, 0x12#8] ∧
  decode [0x5B#8, 0x34#8, 0x12#8] = .ok (.sreAbsy 0x1234#16) [] ∧
  decode [0x5C#8, 0x34#8, 0x12#8] = .ok (.nopAbsx5C 0x1234#16) [] ∧
  decode [0x5D#8, 0x34#8, 0x12#8] = .ok (.eorAbsx 0x1234#16) [] ∧
  decode [0x5E#8, 0x34#8, 0x12#8] = .ok (.lsrAbsx 0x1234#16) [] ∧
  decode [0x5F#8, 0x34#8, 0x12#8] = .ok (.sreAbsx 0x1234#16) [] := by decide

theorem test_decode_page_6 :
  decode [0x60#8, 0x34#8, 0x12#8] = .ok .rts [0x34#8, 0x12#8] ∧
  decode [0x61#8, 0x34#8, 0x12#8] = .ok (.adcIzx 0x34#8) [0x12#8] ∧
  decode [0x62#8, 0x34#8, 0x12#8] = .ok .jam62 [0x34#8, 0x12#8] ∧
  decode [0x63#8, 0x34#8, 0x12#8] = .ok (.rraIzx 0x34#8) [0x12#8] ∧
  decode [0x64#8, 0x34#8, 0x12#8] = .ok (.nopZp64 0x34#8) [0x12#8] ∧
  decode [0x65#8, 0x34#8, 0x12#8] = .ok (.adcZp 0x34#8) [0x12#8] ∧
  decode [0x66#8, 0x34#8, 0x12#8] = .ok (.rorZp 0x34#8) [0x12#8] ∧
  decode [0x67#8, 0x34#8, 0x12#8] = .ok (.rraZp 0x34#8) [0x12#8] ∧
  decode [0x68#8, 0x34#8, 0x12#8] = .ok .pla [0x34#8, 0x12#8] ∧
  decode [0x69#8, 0x34#8, 0x12#8] = .ok (.adcImm 0x34#8) [0x12#8] ∧
  decode [0x6A#8, 0x34#8, 0x12#8] = .ok .rorAcc [0x34#8, 0x12#8] ∧
  decode [0x6B#8, 0x34#8, 0x12#8] = .ok (.arrImm 0x34#8) [0x12#8] ∧
  decode [0x6C#8, 0x34#8, 0x12#8] = .ok (.jmpInd 0x1234#16) [] ∧
  decode [0x6D#8, 0x34#8, 0x12#8] = .ok (.adcAbs 0x1234#16) [] ∧
  decode [0x6E#8, 0x34#8, 0x12#8] = .ok (.rorAbs 0x1234#16) [] ∧
  decode [0x6F#8, 0x34#8, 0x12#8] = .ok (.rraAbs 0x1234#16) [] := by decide

theorem test_decode_page_7 :
  decode [0x70#8, 0x34#8, 0x12#8] = .ok (.bvs 0x34#8) [0x12#8] ∧
  decode [0x71#8, 0x34#8, 0x12#8] = .ok (.adcIzy 0x34#8) [0x12#8] ∧
  decode [0x72#8, 0x34#8, 0x12#8] = .ok .jam72 [0x34#8, 0x12#8] ∧
  decode [0x73#8, 0x34#8, 0x12#8] = .ok (.rraIzy 0x34#8) [0x12#8] ∧
  decode [0x74#8, 0x34#8, 0x12#8] = .ok (.nopZpx74 0x34#8) [0x12#8] ∧
  decode [0x75#8, 0x34#8, 0x12#8] = .ok (.adcZpx 0x34#8) [0x12#8] ∧
  decode [0x76#8, 0x34#8, 0x12#8] = .ok (.rorZpx 0x34#8) [0x12#8] ∧
  decode [0x77#8, 0x34#8, 0x12#8] = .ok (.rraZpx 0x34#8) [0x12#8] ∧
  decode [0x78#8, 0x34#8, 0x12#8] = .ok .sei [0x34#8, 0x12#8] ∧
  decode [0x79#8, 0x34#8, 0x12#8] = .ok (.adcAbsy 0x1234#16) [] ∧
  decode [0x7A#8, 0x34#8, 0x12#8] = .ok .nop7A [0x34#8, 0x12#8] ∧
  decode [0x7B#8, 0x34#8, 0x12#8] = .ok (.rraAbsy 0x1234#16) [] ∧
  decode [0x7C#8, 0x34#8, 0x12#8] = .ok (.nopAbsx7C 0x1234#16) [] ∧
  decode [0x7D#8, 0x34#8, 0x12#8] = .ok (.adcAbsx 0x1234#16) [] ∧
  decode [0x7E#8, 0x34#8, 0x12#8] = .ok (.rorAbsx 0x1234#16) [] ∧
  decode [0x7F#8, 0x34#8, 0x12#8] = .ok (.rraAbsx 0x1234#16) [] := by decide

theorem test_decode_page_8 :
  decode [0x80#8, 0x34#8, 0x12#8] = .ok (.nopImm80 0x34#8) [0x12#8] ∧
  decode [0x81#8, 0x34#8, 0x12#8] = .ok (.staIzx 0x34#8) [0x12#8] ∧
  decode [0x82#8, 0x34#8, 0x12#8] = .ok (.nopImm82 0x34#8) [0x12#8] ∧
  decode [0x83#8, 0x34#8, 0x12#8] = .ok (.saxIzx 0x34#8) [0x12#8] ∧
  decode [0x84#8, 0x34#8, 0x12#8] = .ok (.styZp 0x34#8) [0x12#8] ∧
  decode [0x85#8, 0x34#8, 0x12#8] = .ok (.staZp 0x34#8) [0x12#8] ∧
  decode [0x86#8, 0x34#8, 0x12#8] = .ok (.stxZp 0x34#8) [0x12#8] ∧
  decode [0x87#8, 0x34#8, 0x12#8] = .ok (.saxZp 0x34#8) [0x12#8] ∧
  decode [0x88#8, 0x34#8, 0x12#8] = .ok .dey [0x34#8, 0x12#8] ∧
  decode [0x89#8, 0x34#8, 0x12#8] = .ok (.nopImm89 0x34#8) [0x12#8] ∧
  decode [0x8A#8, 0x34#8, 0x12#8] = .ok .txa [0x34#8, 0x12#8] ∧
  decode [0x8B#8, 0x34#8, 0x12#8] = .ok .ane [0x34#8, 0x12#8] ∧
  decode [0x8C#8, 0x34#8, 0x12#8] = .ok (.styAbs 0x1234#16) [] ∧
  decode [0x8D#8, 0x34#8, 0x12#8] = .ok (.staAbs 0x1234#16) [] ∧
  decode [0x8E#8, 0x34#8, 0x12#8] = .ok (.stxAbs 0x1234#16) [] ∧
  decode [0x8F#8, 0x34#8, 0x12#8] = .ok (.saxAbs 0x1234#16) [] := by decide

theorem test_decode_page_9 :
  decode [0x90#8, 0x34#8, 0x12#8] = .ok (.bcc 0x34#8) [0x12#8] ∧
  decode [0x91#8, 0x34#8, 0x12#8] = .ok (.staIzy 0x34#8) [0x12#8] ∧
  decode [0x92#8, 0x34#8, 0x12#8] = .ok .jam92 [0x34#8, 0x12#8] ∧
  decode [0x93#8, 0x34#8, 0x12#8] = .ok .sha93 [0x34#8, 0x12#8] ∧
  decode [0x94#8, 0x34#8, 0x12#8] = .ok (.styZpx 0x34#8) [0x12#8] ∧
  decode [0x95#8, 0x34#8, 0x12#8] = .ok (.staZpx 0x34#8) [0x12#8] ∧
  decode [0x96#8, 0x34#8, 0x12#8] = .ok (.stxZpy 0x34#8) [0x12#8] ∧
  decode [0x97#8, 0x34#8, 0x12#8] = .ok (.saxZpy 0x34#8) [0x12#8] ∧
  decode [0x98#8, 0x34#8, 0x12#8] = .ok .tya [0x34#8, 0x12#8] ∧
  decode [0x99#8, 0x34#8, 0x12#8] = .ok (.staAbsy 0x1234#16) [] ∧
  decode [0x9A#8, 0x34#8, 0x12#8] = .ok .txs [0x34#8, 0x12#8] ∧
  decode [0x9B#8, 0x34#8, 0x12#8] = .ok .tas [0x34#8, 0x12#8] ∧
  decode [0x9C#8, 0x34#8, 0x12#8] = .ok .shy [0x34#8, 0x12#8] ∧
  decode [0x9D#8, 0x34#8, 0x12#8] = .ok (.staAbsx 0x1234#16) [] ∧
  decode [0x9E#8, 0x34#8, 0x12#8] = .ok .shx [0x34#8, 0x12#8] ∧
  decode [0x9F#8, 0x34#8, 0x12#8] = .ok .sha9F [0x34#8, 0x12#8] := by decide

theorem test_decode_page_A :
  decode [0xA0#8, 0x34#8, 0x12#8] = .ok (.ldyImm 0x34#8) [0x12#8] ∧
  decode [0xA1#8, 0x34#8, 0x12#8] = .ok (.ldaIzx 0x34#8) [0x12#8] ∧
  decode [0xA2#8, 0x34#8, 0x12#8] = .ok (.ldxImm 0x34#8) [0x12#8] ∧
  decode [0xA3#8, 0x34#8, 0x12#8] = .ok (.laxIzx 0x34#8) [0x12#8] ∧
  decode [0xA4#8, 0x34#8, 0x12#8] = .ok (.ldyZp 0x34#8) [0x12#8] ∧
  decode [0xA5#8, 0x34#8, 0x12#8] = .ok (.ldaZp 0x34#8) [0x12#8] ∧
  decode [0xA6#8, 0x34#8, 0x12#8] = .ok (.ldxZp 0x34#8) [0x12#8] ∧
  decode [0xA7#8, 0x34#8, 0x12#8] = .ok (.laxZp 0x34#8) [0x12#8] ∧
  decode [0xA8#8, 0x34#8, 0x12#8] = .ok .tay [0x34#8, 0x12#8] ∧
  decode [0xA9#8, 0x34#8, 0x12#8] = .ok (.ldaImm 0x34#8) [0x12#8] ∧
  decode [0xAA#8, 0x34#8, 0x12#8] = .ok .tax [0x34#8, 0x12#8] ∧
  decode [0xAB#8, 0x34#8, 0x12#8] = .ok .lxa [0x34#8, 0x12#8] ∧
  decode [0xAC#8, 0x34#8, 0x12#8] = .ok (.ldyAbs 0x1234#16) [] ∧
  decode [0xAD#8, 0x34#8, 0x12#8] = .ok (.ldaAbs 0x1234#16) [] ∧
  decode [0xAE#8, 0x34#8, 0x12#8] = .ok (.ldxAbs 0x1234#16) [] ∧
  decode [0xAF#8, 0x34#8, 0x12#8] = .ok (.laxAbs 0x1234#16) [] := by decide

theorem test_decode_page_B :
  decode [0xB0#8, 0x34#8, 0x12#8] = .ok (.bcs 0x34#8) [0x12#8] ∧
  decode [0xB1#8, 0x34#8, 0x12#8] = .ok (.ldaIzy 0x34#8) [0x12#8] ∧
  decode [0xB2#8, 0x34#8, 0x12#8] = .ok .jamB2 [0x34#8, 0x12#8] ∧
  decode [0xB3#8, 0x34#8, 0x12#8] = .ok (.laxIzy 0x34#8) [0x12#8] ∧
  decode [0xB4#8, 0x34#8, 0x12#8] = .ok (.ldyZpx 0x34#8) [0x12#8] ∧
  decode [0xB5#8, 0x34#8, 0x12#8] = .ok (.ldaZpx 0x34#8) [0x12#8] ∧
  decode [0xB6#8, 0x34#8, 0x12#8] = .ok (.ldxZpy 0x34#8) [0x12#8] ∧
  decode [0xB7#8, 0x34#8, 0x12#8] = .ok (.laxZpy 0x34#8) [0x12#8] ∧
  decode [0xB8#8, 0x34#8, 0x12#8] = .ok .clv [0x34#8, 0x12#8] ∧
  decode [0xB9#8, 0x34#8, 0x12#8] = .ok (.ldaAbsy 0x1234#16) [] ∧
  decode [0xBA#8, 0x34#8, 0x12#8] = .ok .tsx [0x34#8, 0x12#8] ∧
  decode [0xBB#8, 0x34#8, 0x12#8] = .ok (.lasAbsy 0x1234#16) [] ∧
  decode [0xBC#8, 0x34#8, 0x12#8] = .ok (.ldyAbsx 0x1234#16) [] ∧
  decode [0xBD#8, 0x34#8, 0x12#8] = .ok (.ldaAbsx 0x1234#16) [] ∧
  decode [0xBE#8, 0x34#8, 0x12#8] = .ok (.ldxAbsy 0x1234#16) [] ∧
  decode [0xBF#8, 0x34#8, 0x12#8] = .ok (.laxAbsy 0x1234#16) [] := by decide

theorem test_decode_page_C :
  decode [0xC0#8, 0x34#8, 0x12#8] = .ok (.cpyImm 0x34#8) [0x12#8] ∧
  decode [0xC1#8, 0x34#8, 0x12#8] = .ok (.cmpIzx 0x34#8) [0x12#8] ∧
  decode [0xC2#8, 0x34#8, 0x12#8] = .ok (.nopImmC2 0x34#8) [0x12#8] ∧
  decode [0xC3#8, 0x34#8, 0x12#8] = .ok (.dcpIzx 0x34#8) [0x12#8] ∧
  decode [0xC4#8, 0x34#8, 0x12#8] = .ok (.cpyZp 0x34#8) [0x12#8] ∧
  decode [0xC5#8, 0x34#8, 0x12#8] = .ok (.cmpZp 0x34#8) [0x12#8] ∧
  decode [0xC6#8, 0x34#8, 0x12#8] = .ok (.decZp 0x34#8) [0x12#8] ∧
  decode [0xC7#8, 0x34#8, 0x12#8] = .ok (.dcpZp 0x34#8) [0x12#8] ∧
  decode [0xC8#8, 0x34#8, 0x12#8] = .ok .iny [0x34#8, 0x12#8] ∧
  decode [0xC9#8, 0x34#8, 0x12#8] = .ok (.cmpImm 0x34#8) [0x12#8] ∧
  decode [0xCA#8, 0x34#8, 0x12#8] = .ok .dex [0x34#8, 0x12#8] ∧
  decode [0xCB#8, 0x34#8, 0x12#8] = .ok (.sbxImm 0x34#8) [0x12#8] ∧
  decode [0xCC#8, 0x34#8, 0x12#8] = .ok (.cpyAbs 0x1234#16) [] ∧
  decode [0xCD#8, 0x34#8, 0x12#8] = .ok (.cmpAbs 0x1234#16) [] ∧
  decode [0xCE#8, 0x34#8, 0x12#8] = .ok (.decAbs 0x1234#16) [] ∧
  decode [0xCF#8, 0x34#8, 0x12#8] = .ok (.dcpAbs 0x1234#16) [] := by decide

theorem test_decode_page_D :
  decode [0xD0#8, 0x34#8, 0x12#8] = .ok (.bne 0x34#8) [0x12#8] ∧
  decode [0xD1#8, 0x34#8, 0x12#8] = .ok (.cmpIzy 0x34#8) [0x12#8] ∧
  decode [0xD2#8, 0x34#8, 0x12#8] = .ok .jamD2 [0x34#8, 0x12#8] ∧
  decode [0xD3#8, 0x34#8, 0x12#8] = .ok (.dcpIzy 0x34#8) [0x12#8] ∧
  decode [0xD4#8, 0x34#8, 0x12#8] = .ok (.nopZpxD4 0x34#8) [0x12#8] ∧
  decode [0xD5#8, 0x34#8, 0x12#8] = .ok (.cmpZpx 0x34#8) [0x12#8] ∧
  decode [0xD6#8, 0x34#8, 0x12#8] = .ok (.decZpx 0x34#8) [0x12#8] ∧
  decode [0xD7#8, 0x34#8, 0x12#8] = .ok (.dcpZpx 0x34#8) [0x12#8] ∧
  decode [0xD8#8, 0x34#8, 0x12#8] = .ok .cld [0x34#8, 0x12#8] ∧
  decode [0xD9#8, 0x34#8, 0x12#8] = .ok (.cmpAbsy 0x1234#16) [] ∧
  decode [0xDA#8, 0x34#8, 0x12#8] = .ok .nopDA [0x34#8, 0x12#8] ∧
  decode [0xDB#8, 0x34#8, 0x12#8] = .ok (.dcpAbsy 0x1234#16) [] ∧
  decode [0xDC#8, 0x34#8, 0x12#8] = .ok (.nopAbsxDC 0x1234#16) [] ∧
  decode [0xDD#8, 0x34#8, 0x12#8] = .ok (.cmpAbsx 0x1234#16) [] ∧
  decode [0xDE#8, 0x34#8, 0x12#8] = .ok (.decAbsx 0x1234#16) [] ∧
  decode [0xDF#8, 0x34#8, 0x12#8] = .ok (.dcpAbsx 0x1234#16) [] := by decide

theorem test_decode_page_E :
  decode [0xE0#8, 0x34#8, 0x12#8] = .ok (.cpxImm 0x34#8) [0x12#8] ∧
  decode [0xE1#8, 0x34#8, 0x12#8] = .ok (.sbcIzx 0x34#8) [0x12#8] ∧
  decode [0xE2#8, 0x34#8, 0x12#8] = .ok (.nopImmE2 0x34#8) [0x12#8] ∧
  decode [0xE3#8, 0x34#8, 0x12#8] = .ok (.isbIzx 0x34#8) [0x12#8] ∧
  decode [0xE4#8, 0x34#8, 0x12#8] = .ok (.cpxZp 0x34#8) [0x12#8] ∧
  decode [0xE5#8, 0x34#8, 0x12#8] = .ok (.sbcZp 0x34#8) [0x12#8] ∧
  decode [0xE6#8, 0x34#8, 0x12#8] = .ok (.incZp 0x34#8) [0x12#8] ∧
  decode [0xE7#8, 0x34#8, 0x12#8] = .ok (.isbZp 0x34#8) [0x12#8] ∧
  decode [0xE8#8, 0x34#8, 0x12#8] = .ok .inx [0x34#8, 0x12#8] ∧
  decode [0xE9#8, 0x34#8, 0x12#8] = .ok (.sbcImm 0x34#8) [0x12#8] ∧
  decode [0xEA#8, 0x34#8, 0x12#8] = .ok .nop [0x34#8, 0x12#8] ∧
  decode [0xEB#8, 0x34#8, 0x12#8] = .ok (.sbcImmEB 0x34#8) [0x12#8] ∧
  decode [0xEC#8, 0x34#8, 0x12#8] = .ok (.cpxAbs 0x1234#16) [] ∧
  decode [0xED#8, 0x34#8, 0x12#8] = .ok (.sbcAbs 0x1234#16) [] ∧
  decode [0xEE#8, 0x34#8, 0x12#8] = .ok (.incAbs 0x1234#16) [] ∧
  decode [0xEF#8, 0x34#8, 0x12#8] = .ok (.isbAbs 0x1234#16) [] := by decide

theorem test_decode_page_F :
  decode [0xF0#8, 0x34#8, 0x12#8] = .ok (.beq 0x34#8) [0x12#8] ∧
  decode [0xF1#8, 0x34#8, 0x12#8] = .ok (.sbcIzy 0x34#8) [0x12#8] ∧
  decode [0xF2#8, 0x34#8, 0x12#8] = .ok .jamF2 [0x34#8, 0x12#8] ∧
  decode [0xF3#8, 0x34#8, 0x12#8] = .ok (.isbIzy 0x34#8) [0x12#8] ∧
  decode [0xF4#8, 0x34#8, 0x12#8] = .ok (.nopZpxF4 0x34#8) [0x12#8] ∧
  decode [0xF5#8, 0x34#8, 0x12#8] = .ok (.sbcZpx 0x34#8) [0x12#8] ∧
  decode [0xF6#8, 0x34#8, 0x12#8] = .ok (.incZpx 0x34#8) [0x12#8] ∧
  decode [0xF7#8, 0x34#8, 0x12#8] = .ok (.isbZpx 0x34#8) [0x12#8] ∧
  decode [0xF8#8, 0x34#8, 0x12#8] = .ok .sed [0x34#8, 0x12#8] ∧
  decode [0xF9#8, 0x34#8, 0x12#8] = .ok (.sbcAbsy 0x1234#16) [] ∧
  decode [0xFA#8, 0x34#8, 0x12#8] = .ok .nopFA [0x34#8, 0x12#8] ∧
  decode [0xFB#8, 0x34#8, 0x12#8] = .ok (.isbAbsy 0x1234#16) [] ∧
  decode [0xFC#8, 0x34#8, 0x12#8] = .ok (.nopAbsxFC 0x1234#16) [] ∧
  decode [0xFD#8, 0x34#8, 0x12#8] = .ok (.sbcAbsx 0x1234#16) [] ∧
  decode [0xFE#8, 0x34#8, 0x12#8] = .ok (.incAbsx 0x1234#16) [] ∧
  decode [0xFF#8, 0x34#8, 0x12#8] = .ok (.isbAbsx 0x1234#16) [] := by decide

/-! ## Single steps on the flat harness (spec/95_test_vectors.md) -/

/-- The CPU of a vector before its listed differences. -/
def startCpu : Cpu :=
  { a := 0#8, x := 0#8, y := 0#8, sp := 0xFD#8, pc := 0x8000#16, p := unpack 0x24#8 }

/-- Store a byte in the flat harness. -/
def poke (cell : Nat × Nat) (s : State) : State :=
  { s with flat := s.flat.write cell.1 (BitVec.ofNat 8 cell.2) }

/-- A vector's start: the flat harness (D23) with the bytes at PC and the listed cells. -/
def atStart (bytes : List Nat) (cpu : Cpu) (cells : List (Nat × Nat)) : State :=
  (cells ++ (List.range bytes.length).map fun k => (cpu.pc.toNat + k, bytes.getD k 0)).foldr poke
    { State.reset with cpu := cpu, readSlot := Vector.replicate 8 .flat, writeSlot := Vector.replicate 8 .flat }

/-- The same with the optional opcodes enabled. -/
def enabled (s : State) : State := { s with params := { s.params with extraUnofficial := true } }

/-- One step: A, X, Y, S, PC, the packed flags, the cycles and the byte at an address. -/
def ran (s : State) (addr : Nat) : Option (List Nat) :=
  match step s with
  | .next t => some [t.cpu.a.toNat, t.cpu.x.toNat, t.cpu.y.toNat, t.cpu.sp.toNat, t.cpu.pc.toNat, (hostStatus t).toNat,
      t.stepCycles, (t.flat.read addr).toNat]
  | .fault _ => none
  | .refused _ => none

/-- V40.2, R200: N from bit 7. -/
theorem test_ldaImm :
    ran (atStart [0xA9, 0x80] startCpu []) 0x0 =
      some [0x80, 0x00, 0x00, 0xFD, 0x8002, 0xA4, 2, 0x00] := by decide

/-- V40.4, R200. -/
theorem test_ldaZp :
    ran (atStart [0xA5, 0x10] startCpu [(0x10, 0x55)]) 0x10 =
      some [0x55, 0x00, 0x00, 0xFD, 0x8002, 0x24, 3, 0x55] := by decide

/-- V40.5, R200: zp,X wraps in page 0. -/
theorem test_ldaZpx :
    ran (atStart [0xB5, 0xF0] ({ startCpu with x := 0x20#8 }) [(0x10, 0x99)]) 0x10 =
      some [0x99, 0x20, 0x00, 0xFD, 0x8002, 0xA4, 4, 0x99] := by decide

/-- V40.6, R200. -/
theorem test_ldaAbs :
    ran (atStart [0xAD, 0x34, 0x12] startCpu [(0x1234, 0x01)]) 0x1234 =
      some [0x01, 0x00, 0x00, 0xFD, 0x8003, 0x24, 4, 0x01] := by decide

/-- V40.8, R200: abs,X crossing: +1. -/
theorem test_ldaAbsx :
    ran (atStart [0xBD, 0xFF, 0x12] ({ startCpu with x := 0x01#8 }) [(0x1300, 0x00)]) 0x1300 =
      some [0x00, 0x01, 0x00, 0xFD, 0x8003, 0x26, 5, 0x00] := by decide

/-- V40.9, R200: abs,Y crossing: +1. -/
theorem test_ldaAbsy :
    ran (atStart [0xB9, 0x34, 0x12] ({ startCpu with y := 0xFF#8 }) [(0x1333, 0x40)]) 0x1333 =
      some [0x40, 0x00, 0xFF, 0xFD, 0x8003, 0x24, 5, 0x40] := by decide

/-- V40.10, R200: 0xFFFF + 1 wraps to 0x0000, counts as a crossing. -/
theorem test_ldaAbsx_again :
    ran (atStart [0xBD, 0xFF, 0xFF] ({ startCpu with x := 0x01#8 }) [(0x0, 0x77)]) 0x0 =
      some [0x77, 0x01, 0x00, 0xFD, 0x8003, 0x24, 5, 0x77] := by decide

/-- V40.12, R200: (zp,X) pointer high byte from 0x0000, not 0x0100. -/
theorem test_ldaIzx :
    ran (atStart [0xA1, 0xFF] startCpu [(0x0, 0x04), (0xFF, 0x00), (0x100, 0x09), (0x400, 0x5A)]) 0x400 =
      some [0x5A, 0x00, 0x00, 0xFD, 0x8002, 0x24, 6, 0x5A] := by decide

/-- V40.14, R200: (zp),Y crossing: +1. -/
theorem test_ldaIzy :
    ran (atStart [0xB1, 0x20] ({ startCpu with y := 0x10#8 }) [(0x20, 0xF8), (0x21, 0x03), (0x408, 0x44)]) 0x408 =
      some [0x44, 0x00, 0x10, 0xFD, 0x8002, 0x24, 6, 0x44] := by decide

/-- V40.15, R200: (zp),Y pointer wraps in page 0. -/
theorem test_ldaIzy_again :
    ran (atStart [0xB1, 0xFF] ({ startCpu with y := 0x01#8 }) [(0x0, 0x05), (0xFF, 0x00), (0x501, 0x66)]) 0x501 =
      some [0x66, 0x00, 0x01, 0xFD, 0x8002, 0x24, 5, 0x66] := by decide

/-- V40.16, R201: zp,Y wraps in page 0. -/
theorem test_ldxZpy :
    ran (atStart [0xB6, 0xFF] ({ startCpu with y := 0x02#8 }) [(0x1, 0x8F)]) 0x1 =
      some [0x00, 0x8F, 0x02, 0xFD, 0x8002, 0xA4, 4, 0x8F] := by decide

/-- V40.17, R201: abs,Y crossing: +1. -/
theorem test_ldxAbsy :
    ran (atStart [0xBE, 0xFF, 0x12] ({ startCpu with y := 0x01#8 }) [(0x1300, 0x00)]) 0x1300 =
      some [0x00, 0x00, 0x01, 0xFD, 0x8003, 0x26, 5, 0x00] := by decide

/-- V40.18, R202: abs,X carries into page 1 (abs, not zp). -/
theorem test_ldyAbsx :
    ran (atStart [0xBC, 0x80, 0x00] ({ startCpu with x := 0x80#8 }) [(0x100, 0x01)]) 0x100 =
      some [0x00, 0x80, 0x01, 0xFD, 0x8003, 0x24, 5, 0x01] := by decide

/-- V40.19, R202. -/
theorem test_ldyZpx :
    ran (atStart [0xB4, 0xFF] ({ startCpu with x := 0x05#8 }) [(0x4, 0x80)]) 0x4 =
      some [0x00, 0x05, 0x80, 0xFD, 0x8002, 0xA4, 4, 0x80] := by decide

/-- V40.20, R203: flags unchanged. -/
theorem test_staZp :
    ran (atStart [0x85, 0x10] ({ startCpu with a := 0x42#8 }) []) 0x10 =
      some [0x42, 0x00, 0x00, 0xFD, 0x8002, 0x24, 3, 0x42] := by decide

/-- V40.21, R203: pure write: no crossing cycle (5). -/
theorem test_staAbsx :
    ran (atStart [0x9D, 0xFF, 0x12] ({ startCpu with a := 0x42#8, x := 0x01#8 }) []) 0x1300 =
      some [0x42, 0x01, 0x00, 0xFD, 0x8003, 0x24, 5, 0x42] := by decide

/-- V40.22, R203: same instruction without crossing: also 5. -/
theorem test_staAbsx_again :
    ran (atStart [0x9D, 0x00, 0x12] ({ startCpu with a := 0x42#8, x := 0x01#8 }) []) 0x1201 =
      some [0x42, 0x01, 0x00, 0xFD, 0x8003, 0x24, 5, 0x42] := by decide

/-- V40.23, R203: (zp),Y write crossing: 6, no penalty. -/
theorem test_staIzy :
    ran (atStart [0x91, 0x20] ({ startCpu with a := 0x42#8, y := 0x10#8 }) [(0x20, 0xF8), (0x21, 0x03)]) 0x408 =
      some [0x42, 0x00, 0x10, 0xFD, 0x8002, 0x24, 6, 0x42] := by decide

/-- V40.25, R204: zp,Y wraps: writes 0x0001. -/
theorem test_stxZpy :
    ran (atStart [0x96, 0xF0] ({ startCpu with x := 0x05#8, y := 0x11#8 }) []) 0x1 =
      some [0x00, 0x05, 0x11, 0xFD, 0x8002, 0x24, 4, 0x05] := by decide

/-- V40.26, R205: zp,X wraps: writes 0x0001. -/
theorem test_styZpx :
    ran (atStart [0x94, 0x02] ({ startCpu with x := 0xFF#8, y := 0x09#8 }) []) 0x1 =
      some [0x00, 0xFF, 0x09, 0xFD, 0x8002, 0x24, 4, 0x09] := by decide

/-- V40.27, R205. -/
theorem test_styAbs :
    ran (atStart [0x8C, 0x00, 0x03] ({ startCpu with y := 0x09#8 }) []) 0x300 =
      some [0x00, 0x00, 0x09, 0xFD, 0x8003, 0x24, 4, 0x09] := by decide

/-- V41.1, R220. -/
theorem test_tax :
    ran (atStart [0xAA] ({ startCpu with a := 0xF0#8 }) []) 0x0 =
      some [0xF0, 0xF0, 0x00, 0xFD, 0x8001, 0xA4, 2, 0x00] := by decide

/-- V41.2, R221. -/
theorem test_tay :
    ran (atStart [0xA8] ({ startCpu with y := 0x05#8 }) []) 0x0 =
      some [0x00, 0x00, 0x00, 0xFD, 0x8001, 0x26, 2, 0x00] := by decide

/-- V41.3, R222. -/
theorem test_txa :
    ran (atStart [0x8A] ({ startCpu with a := 0x80#8, x := 0x01#8, p := unpack 0xA4#8 }) []) 0x0 =
      some [0x01, 0x01, 0x00, 0xFD, 0x8001, 0x24, 2, 0x00] := by decide

/-- V41.4, R223. -/
theorem test_tya :
    ran (atStart [0x98] ({ startCpu with y := 0x80#8 }) []) 0x0 =
      some [0x80, 0x00, 0x80, 0xFD, 0x8001, 0xA4, 2, 0x00] := by decide

/-- V41.5, R224: S = 0xFD after reset. -/
theorem test_tsx :
    ran (atStart [0xBA] startCpu []) 0x0 =
      some [0x00, 0xFD, 0x00, 0xFD, 0x8001, 0xA4, 2, 0x00] := by decide

/-- V41.6, R225: no flag written. -/
theorem test_txs :
    ran (atStart [0x9A] ({ startCpu with p := unpack 0xA4#8 }) []) 0x0 =
      some [0x00, 0x00, 0x00, 0x00, 0x8001, 0xA4, 2, 0x00] := by decide

/-- V41.8, R226: S wraps 0x00 to 0xFF, write at 0x0100. -/
theorem test_pha :
    ran (atStart [0x48] ({ startCpu with a := 0x37#8, sp := 0x00#8 }) []) 0x100 =
      some [0x37, 0x00, 0x00, 0xFF, 0x8001, 0x24, 3, 0x37] := by decide

/-- V41.9, R227: B and bit 5 pushed as 1. -/
theorem test_php :
    ran (atStart [0x08] ({ startCpu with p := unpack 0xA5#8 }) []) 0x1FD =
      some [0x00, 0x00, 0x00, 0xFC, 0x8001, 0xA5, 3, 0xB5] := by decide

/-- V41.12, R228: S wraps 0xFF to 0x00, read at 0x0100. -/
theorem test_pla :
    ran (atStart [0x68] ({ startCpu with sp := 0xFF#8 }) [(0x100, 0x80)]) 0x100 =
      some [0x80, 0x00, 0x00, 0x00, 0x8001, 0xA4, 4, 0x80] := by decide

/-- V41.13, R229: all eight cells from the byte, B = R = 0. -/
theorem test_plp :
    ran (atStart [0x28] ({ startCpu with sp := 0xFC#8 }) [(0x1FD, 0xC3)]) 0x1FD =
      some [0x00, 0x00, 0x00, 0xFD, 0x8001, 0xC3, 4, 0xC3] := by decide

/-- V42.2, R240: 0x7F+1. -/
theorem test_adcImm :
    ran (atStart [0x69, 0x01] ({ startCpu with a := 0x7F#8 }) []) 0x0 =
      some [0x80, 0x00, 0x00, 0xFD, 0x8002, 0xE4, 2, 0x00] := by decide

/-- V42.7, R240: D = 1 ignored. -/
theorem test_adcImm_again :
    ran (atStart [0x69, 0x01] ({ startCpu with a := 0x09#8, p := unpack 0x2C#8 }) []) 0x0 =
      some [0x0A, 0x00, 0x00, 0xFD, 0x8002, 0x2C, 2, 0x00] := by decide

/-- V42.10, R241: signed overflow. -/
theorem test_sbcImm :
    ran (atStart [0xE9, 0x01] ({ startCpu with a := 0x80#8, p := unpack 0x25#8 }) []) 0x0 =
      some [0x7F, 0x00, 0x00, 0xFD, 0x8002, 0x65, 2, 0x00] := by decide

/-- V42.11, R241: C = 0 subtracts one more. -/
theorem test_sbcImm_again :
    ran (atStart [0xE9, 0x50] ({ startCpu with a := 0x50#8 }) []) 0x0 =
      some [0xFF, 0x00, 0x00, 0xFD, 0x8002, 0xA4, 2, 0x00] := by decide

/-- V42.14, R242. -/
theorem test_andImm :
    ran (atStart [0x29, 0x3C] ({ startCpu with a := 0xF0#8 }) []) 0x0 =
      some [0x30, 0x00, 0x00, 0xFD, 0x8002, 0x24, 2, 0x00] := by decide

/-- V42.16, R243. -/
theorem test_oraImm :
    ran (atStart [0x09, 0x80] ({ startCpu with a := 0x01#8 }) []) 0x0 =
      some [0x81, 0x00, 0x00, 0xFD, 0x8002, 0xA4, 2, 0x00] := by decide

/-- V42.17, R244: Z. -/
theorem test_eorImm :
    ran (atStart [0x49, 0xFF] ({ startCpu with a := 0xFF#8 }) []) 0x0 =
      some [0x00, 0x00, 0x00, 0xFD, 0x8002, 0x26, 2, 0x00] := by decide

/-- V42.18, R245: below. -/
theorem test_cmpImm :
    ran (atStart [0xC9, 0x20] ({ startCpu with a := 0x10#8 }) []) 0x0 =
      some [0x10, 0x00, 0x00, 0xFD, 0x8002, 0xA4, 2, 0x00] := by decide

/-- V42.20, R245: above, N from difference. -/
theorem test_cmpImm_again :
    ran (atStart [0xC9, 0x00] ({ startCpu with a := 0x80#8 }) []) 0x0 =
      some [0x80, 0x00, 0x00, 0xFD, 0x8002, 0xA5, 2, 0x00] := by decide

/-- V42.21, R246. -/
theorem test_cpxImm :
    ran (atStart [0xE0, 0x05] ({ startCpu with x := 0x05#8 }) []) 0x0 =
      some [0x00, 0x05, 0x00, 0xFD, 0x8002, 0x27, 2, 0x00] := by decide

/-- V42.22, R247. -/
theorem test_cpyImm :
    ran (atStart [0xC0, 0x00] ({ startCpu with y := 0xFF#8 }) []) 0x0 =
      some [0x00, 0x00, 0xFF, 0xFD, 0x8002, 0xA5, 2, 0x00] := by decide

/-- V42.23, R248: N, V from M; Z from A & M. -/
theorem test_bitZp :
    ran (atStart [0x24, 0x10] ({ startCpu with a := 0x01#8 }) [(0x10, 0xC0)]) 0x10 =
      some [0x01, 0x00, 0x00, 0xFD, 0x8002, 0xE6, 3, 0xC0] := by decide

/-- V42.24, R248. -/
theorem test_bitAbs :
    ran (atStart [0x2C, 0x34, 0x12] ({ startCpu with a := 0xFF#8, p := unpack 0xE6#8 }) [(0x1234, 0x01)]) 0x1234 =
      some [0xFF, 0x00, 0x00, 0xFD, 0x8003, 0x24, 4, 0x01] := by decide

/-- V42.25, R249: wrap to 0. -/
theorem test_incZp :
    ran (atStart [0xE6, 0x10] startCpu [(0x10, 0xFF)]) 0x10 =
      some [0x00, 0x00, 0x00, 0xFD, 0x8002, 0x26, 5, 0x00] := by decide

/-- V42.26, R249: abs,X RMW crossing, RMW_PAGE_PENALTY=true: 8. -/
theorem test_incAbsx :
    ran (atStart [0xFE, 0xFF, 0x12] ({ startCpu with x := 0x01#8 }) [(0x1300, 0x7F)]) 0x1300 =
      some [0x00, 0x01, 0x00, 0xFD, 0x8003, 0xA4, 8, 0x80] := by decide

/-- V42.28, R250: C, V unchanged. -/
theorem test_decZp :
    ran (atStart [0xC6, 0x10] ({ startCpu with p := unpack 0x65#8 }) [(0x10, 0x00)]) 0x10 =
      some [0x00, 0x00, 0x00, 0xFD, 0x8002, 0xE5, 5, 0xFF] := by decide

/-- V42.29, R250: zp,X wraps; Z. -/
theorem test_decZpx :
    ran (atStart [0xD6, 0xEF] ({ startCpu with x := 0x11#8 }) [(0x0, 0x01)]) 0x0 =
      some [0x00, 0x11, 0x00, 0xFD, 0x8002, 0x26, 6, 0x00] := by decide

/-- V42.30, R251: wrap, C not written. -/
theorem test_inx :
    ran (atStart [0xE8] ({ startCpu with x := 0xFF#8 }) []) 0x0 =
      some [0x00, 0x00, 0x00, 0xFD, 0x8001, 0x26, 2, 0x00] := by decide

/-- V42.31, R252. -/
theorem test_iny :
    ran (atStart [0xC8] ({ startCpu with y := 0x7F#8 }) []) 0x0 =
      some [0x00, 0x00, 0x80, 0xFD, 0x8001, 0xA4, 2, 0x00] := by decide

/-- V42.32, R253. -/
theorem test_dex :
    ran (atStart [0xCA] startCpu []) 0x0 =
      some [0x00, 0xFF, 0x00, 0xFD, 0x8001, 0xA4, 2, 0x00] := by decide

/-- V42.33, R254. -/
theorem test_dey :
    ran (atStart [0x88] ({ startCpu with y := 0x01#8 }) []) 0x0 =
      some [0x00, 0x00, 0x00, 0xFD, 0x8001, 0x26, 2, 0x00] := by decide

/-- V43.1, R280. -/
theorem test_aslAcc :
    ran (atStart [0x0A] ({ startCpu with a := 0x81#8 }) []) 0x0 =
      some [0x02, 0x00, 0x00, 0xFD, 0x8001, 0x25, 2, 0x00] := by decide

/-- V43.3, R280: abs,X RMW crossing: 7+1. -/
theorem test_aslAbsx :
    ran (atStart [0x1E, 0xFF, 0x12] ({ startCpu with x := 0x01#8 }) [(0x1300, 0x40)]) 0x1300 =
      some [0x00, 0x01, 0x00, 0xFD, 0x8003, 0xA4, 8, 0x80] := by decide

/-- V43.4, R281. -/
theorem test_lsrZp :
    ran (atStart [0x46, 0x10] startCpu [(0x10, 0x03)]) 0x10 =
      some [0x00, 0x00, 0x00, 0xFD, 0x8002, 0x25, 5, 0x01] := by decide

/-- V43.5, R281: N always 0. -/
theorem test_lsrAcc :
    ran (atStart [0x4A] ({ startCpu with a := 0x01#8, p := unpack 0xA4#8 }) []) 0x0 =
      some [0x00, 0x00, 0x00, 0xFD, 0x8001, 0x27, 2, 0x00] := by decide

/-- V43.6, R282. -/
theorem test_rolAcc :
    ran (atStart [0x2A] ({ startCpu with a := 0x40#8, p := unpack 0x25#8 }) []) 0x0 =
      some [0x81, 0x00, 0x00, 0xFD, 0x8001, 0xA4, 2, 0x00] := by decide

/-- V43.8, R282. -/
theorem test_rolZpx :
    ran (atStart [0x36, 0x10] ({ startCpu with x := 0x01#8, p := unpack 0x25#8 }) [(0x11, 0x00)]) 0x11 =
      some [0x00, 0x01, 0x00, 0xFD, 0x8002, 0x24, 6, 0x01] := by decide

/-- V43.9, R283. -/
theorem test_rorAbs :
    ran (atStart [0x6E, 0x00, 0x03] ({ startCpu with p := unpack 0x25#8 }) [(0x300, 0x02)]) 0x300 =
      some [0x00, 0x00, 0x00, 0xFD, 0x8003, 0xA4, 6, 0x81] := by decide

/-- V43.10, R283: Z, C. -/
theorem test_rorAcc :
    ran (atStart [0x6A] ({ startCpu with a := 0x01#8 }) []) 0x0 =
      some [0x00, 0x00, 0x00, 0xFD, 0x8001, 0x27, 2, 0x00] := by decide

/-- V44.1, R290. -/
theorem test_jmpAbs :
    ran (atStart [0x4C, 0x00, 0x90] startCpu []) 0x0 =
      some [0x00, 0x00, 0x00, 0xFD, 0x9000, 0x24, 3, 0x00] := by decide

/-- V44.3, R290: pointer page wrap: high byte from 0x0200. -/
theorem test_jmpInd :
    ran (atStart [0x6C, 0xFF, 0x02] startCpu [(0x200, 0x90), (0x2FF, 0x00), (0x300, 0x80)]) 0x300 =
      some [0x00, 0x00, 0x00, 0xFD, 0x9000, 0x24, 5, 0x80] := by decide

/-- V44.5, R291: pushes at 0x0100, 0x01FF. -/
theorem test_jsr :
    ran (atStart [0x20, 0x00, 0x90] ({ startCpu with sp := 0x00#8 }) []) 0x1FF =
      some [0x00, 0x00, 0x00, 0xFE, 0x9000, 0x24, 6, 0x02] := by decide

/-- V44.7, R292: 0xFFFF + 1 wraps. -/
theorem test_rts :
    ran (atStart [0x60] ({ startCpu with sp := 0xFB#8, pc := 0x9000#16 }) [(0x1FC, 0xFF), (0x1FD, 0xFF)]) 0x1FD =
      some [0x00, 0x00, 0x00, 0xFD, 0x0000, 0x24, 6, 0xFF] := by decide

/-- V44.8, R293: no +1; I from stack. -/
theorem test_rti :
    ran (atStart [0x40] ({ startCpu with sp := 0xFA#8, pc := 0x9000#16 }) [(0x1FB, 0x20), (0x1FC, 0x05), (0x1FD, 0x80)]) 0x1FD =
      some [0x00, 0x00, 0x00, 0xFD, 0x8005, 0x20, 6, 0x80] := by decide

/-- V44.10, R295: taken. -/
theorem test_bcc :
    ran (atStart [0x90, 0x02] startCpu []) 0x0 =
      some [0x00, 0x00, 0x00, 0xFD, 0x8004, 0x24, 3, 0x00] := by decide

/-- V44.11, R296: not taken. -/
theorem test_bcs :
    ran (atStart [0xB0, 0x02] startCpu []) 0x0 =
      some [0x00, 0x00, 0x00, 0xFD, 0x8002, 0x24, 2, 0x00] := by decide

/-- V44.12, R297: loops on itself. -/
theorem test_beq :
    ran (atStart [0xF0, 0xFE] ({ startCpu with p := unpack 0x26#8 }) []) 0x0 =
      some [0x00, 0x00, 0x00, 0xFD, 0x8000, 0x26, 3, 0x00] := by decide

/-- V44.13, R298: backward. -/
theorem test_bne :
    ran (atStart [0xD0, 0xFA] ({ startCpu with pc := 0x8006#16 }) []) 0x0 =
      some [0x00, 0x00, 0x00, 0xFD, 0x8002, 0x24, 3, 0x00] := by decide

/-- V44.14, R299: max forward. -/
theorem test_bmi :
    ran (atStart [0x30, 0x7F] ({ startCpu with p := unpack 0xA4#8 }) []) 0x0 =
      some [0x00, 0x00, 0x00, 0xFD, 0x8081, 0xA4, 3, 0x00] := by decide

/-- V44.15, R300: max backward, page crossed. -/
theorem test_bpl :
    ran (atStart [0x10, 0x80] startCpu []) 0x0 =
      some [0x00, 0x00, 0x00, 0xFD, 0x7F82, 0x24, 4, 0x00] := by decide

/-- V44.16, R301: offset 0 taken: 3. -/
theorem test_bvc :
    ran (atStart [0x50, 0x00] startCpu []) 0x0 =
      some [0x00, 0x00, 0x00, 0xFD, 0x8002, 0x24, 3, 0x00] := by decide

/-- V44.17, R302: next 0x80F2, target 0x8102. -/
theorem test_bvs :
    ran (atStart [0x70, 0x10] ({ startCpu with pc := 0x80F0#16, p := unpack 0x64#8 }) []) 0x0 =
      some [0x00, 0x00, 0x00, 0xFD, 0x8102, 0x64, 4, 0x00] := by decide

/-- V44.18, R302: target 0x80FE, same page as next. -/
theorem test_bvs_again :
    ran (atStart [0x70, 0x0C] ({ startCpu with pc := 0x80F0#16, p := unpack 0x64#8 }) []) 0x0 =
      some [0x00, 0x00, 0x00, 0xFD, 0x80FE, 0x64, 3, 0x00] := by decide

/-- V44.20, R298: branch opcode on page 0x81, next 0x8102, target 0x80FF: crossing. -/
theorem test_bne_again :
    ran (atStart [0xD0, 0xFD] ({ startCpu with pc := 0x8100#16 }) []) 0x0 =
      some [0x00, 0x00, 0x00, 0xFD, 0x80FF, 0x24, 4, 0x00] := by decide

/-- V44.21, R300: branch straddles page: next 0x8100, target 0x8102, same page as next: 3. -/
theorem test_bpl_again :
    ran (atStart [0x10, 0x02] ({ startCpu with pc := 0x80FE#16 }) []) 0x0 =
      some [0x00, 0x00, 0x00, 0xFD, 0x8102, 0x24, 3, 0x00] := by decide

/-- V44.22, R297: not taken across page: 2. -/
theorem test_beq_again :
    ran (atStart [0xF0, 0x10] ({ startCpu with pc := 0x80FE#16 }) []) 0x0 =
      some [0x00, 0x00, 0x00, 0xFD, 0x8100, 0x24, 2, 0x00] := by decide

/-- V44.23, R303: B pushed as 1, PC+2 pushed. -/
theorem test_brk :
    ran (atStart [0x00, 0xEA] ({ startCpu with p := unpack 0x20#8 }) [(0xFFFE, 0x00), (0xFFFF, 0x90)]) 0x1FB =
      some [0x00, 0x00, 0x00, 0xFA, 0x9000, 0x24, 7, 0x30] := by decide

/-- V44.24, R303: taken with I = 1; D kept. -/
theorem test_brk_again :
    ran (atStart [0x00, 0xEA] ({ startCpu with p := unpack 0x2D#8 }) [(0xFFFE, 0x00), (0xFFFF, 0x90)]) 0x1FB =
      some [0x00, 0x00, 0x00, 0xFA, 0x9000, 0x2D, 7, 0x3D] := by decide

/-- V45.1, R320. -/
theorem test_clc :
    ran (atStart [0x18] ({ startCpu with p := unpack 0x25#8 }) []) 0x0 =
      some [0x00, 0x00, 0x00, 0xFD, 0x8001, 0x24, 2, 0x00] := by decide

/-- V45.2, R321. -/
theorem test_sec :
    ran (atStart [0x38] startCpu []) 0x0 =
      some [0x00, 0x00, 0x00, 0xFD, 0x8001, 0x25, 2, 0x00] := by decide

/-- V45.3, R322. -/
theorem test_cli :
    ran (atStart [0x58] startCpu []) 0x0 =
      some [0x00, 0x00, 0x00, 0xFD, 0x8001, 0x20, 2, 0x00] := by decide

/-- V45.4, R323. -/
theorem test_sei :
    ran (atStart [0x78] ({ startCpu with p := unpack 0x20#8 }) []) 0x0 =
      some [0x00, 0x00, 0x00, 0xFD, 0x8001, 0x24, 2, 0x00] := by decide

/-- V45.5, R324. -/
theorem test_clv :
    ran (atStart [0xB8] ({ startCpu with p := unpack 0x64#8 }) []) 0x0 =
      some [0x00, 0x00, 0x00, 0xFD, 0x8001, 0x24, 2, 0x00] := by decide

/-- V45.6, R325. -/
theorem test_cld :
    ran (atStart [0xD8] ({ startCpu with p := unpack 0x2C#8 }) []) 0x0 =
      some [0x00, 0x00, 0x00, 0xFD, 0x8001, 0x24, 2, 0x00] := by decide

/-- V45.7, R326. -/
theorem test_sed :
    ran (atStart [0xF8] startCpu []) 0x0 =
      some [0x00, 0x00, 0x00, 0xFD, 0x8001, 0x2C, 2, 0x00] := by decide

/-- V45.8, R327. -/
theorem test_nop :
    ran (atStart [0xEA] startCpu []) 0x0 =
      some [0x00, 0x00, 0x00, 0xFD, 0x8001, 0x24, 2, 0x00] := by decide

/-- V46.1, R340. -/
theorem test_laxZp :
    ran (atStart [0xA7, 0x10] startCpu [(0x10, 0x80)]) 0x10 =
      some [0x80, 0x80, 0x00, 0xFD, 0x8002, 0xA4, 3, 0x80] := by decide

/-- V46.2, R340: (zp),Y crossing +1. -/
theorem test_laxIzy :
    ran (atStart [0xB3, 0x20] ({ startCpu with y := 0x10#8 }) [(0x20, 0xF8), (0x21, 0x03), (0x408, 0x00)]) 0x408 =
      some [0x00, 0x00, 0x10, 0xFD, 0x8002, 0x26, 6, 0x00] := by decide

/-- V46.3, R340: zp,Y wraps. -/
theorem test_laxZpy :
    ran (atStart [0xB7, 0xFF] ({ startCpu with y := 0x02#8 }) [(0x1, 0x01)]) 0x1 =
      some [0x01, 0x01, 0x02, 0xFD, 0x8002, 0x24, 4, 0x01] := by decide

/-- V46.4, R341: no flags. -/
theorem test_saxZp :
    ran (atStart [0x87, 0x10] ({ startCpu with a := 0xF0#8, x := 0x3C#8, p := unpack 0xA4#8 }) []) 0x10 =
      some [0xF0, 0x3C, 0x00, 0xFD, 0x8002, 0xA4, 3, 0x30] := by decide

/-- V46.5, R341: zp,Y wraps. -/
theorem test_saxZpy :
    ran (atStart [0x97, 0xFF] ({ startCpu with a := 0xFF#8, x := 0x0F#8, y := 0x02#8 }) []) 0x1 =
      some [0xFF, 0x0F, 0x02, 0xFD, 0x8002, 0x24, 4, 0x0F] := by decide

/-- V46.6, R342. -/
theorem test_dcpZp :
    ran (atStart [0xC7, 0x10] ({ startCpu with a := 0x05#8 }) [(0x10, 0x06)]) 0x10 =
      some [0x05, 0x00, 0x00, 0xFD, 0x8002, 0x27, 5, 0x05] := by decide

/-- V46.7, R342: 0 to 0xFF, compare 5 with 0xFF. -/
theorem test_dcpZp_again :
    ran (atStart [0xC7, 0x10] ({ startCpu with a := 0x05#8 }) [(0x10, 0x00)]) 0x10 =
      some [0x05, 0x00, 0x00, 0xFD, 0x8002, 0x24, 5, 0xFF] := by decide

/-- V46.8, R342: abs,Y RMW crossing: 7+1. -/
theorem test_dcpAbsy :
    ran (atStart [0xDB, 0xFF, 0x12] ({ startCpu with a := 0x05#8, y := 0x01#8 }) [(0x1300, 0x07)]) 0x1300 =
      some [0x05, 0x00, 0x01, 0xFD, 0x8003, 0xA4, 8, 0x06] := by decide

/-- V46.11, R343: 0x80 - 1 overflows. -/
theorem test_isbZp :
    ran (atStart [0xE7, 0x10] ({ startCpu with a := 0x80#8, p := unpack 0x25#8 }) [(0x10, 0x00)]) 0x10 =
      some [0x7F, 0x00, 0x00, 0xFD, 0x8002, 0x65, 5, 0x01] := by decide

/-- V46.12, R344. -/
theorem test_sloZp :
    ran (atStart [0x07, 0x10] ({ startCpu with a := 0x01#8 }) [(0x10, 0x81)]) 0x10 =
      some [0x03, 0x00, 0x00, 0xFD, 0x8002, 0x25, 5, 0x02] := by decide

/-- V46.13, R345. -/
theorem test_rlaZp :
    ran (atStart [0x27, 0x10] ({ startCpu with a := 0xFF#8, p := unpack 0x25#8 }) [(0x10, 0x80)]) 0x10 =
      some [0x01, 0x00, 0x00, 0xFD, 0x8002, 0x25, 5, 0x01] := by decide

/-- V46.14, R346. -/
theorem test_sreZp :
    ran (atStart [0x47, 0x10] ({ startCpu with a := 0x80#8 }) [(0x10, 0x03)]) 0x10 =
      some [0x81, 0x00, 0x00, 0xFD, 0x8002, 0xA5, 5, 0x01] := by decide

/-- V46.15, R347: carry-in from rotate. -/
theorem test_rraZp :
    ran (atStart [0x67, 0x10] ({ startCpu with a := 0x10#8 }) [(0x10, 0x03)]) 0x10 =
      some [0x12, 0x00, 0x00, 0xFD, 0x8002, 0x24, 5, 0x01] := by decide

/-- V46.16, R347: rotated 0x81, C 0, 0x7F+0x81 = 0x100. -/
theorem test_rraZp_again :
    ran (atStart [0x67, 0x10] ({ startCpu with a := 0x7F#8, p := unpack 0x25#8 }) [(0x10, 0x02)]) 0x10 =
      some [0x00, 0x00, 0x00, 0xFD, 0x8002, 0x27, 5, 0x81] := by decide

/-- V46.17, R348. -/
theorem test_sbcImmEB :
    ran (atStart [0xEB, 0x03] ({ startCpu with a := 0x05#8, p := unpack 0x25#8 }) []) 0x0 =
      some [0x02, 0x00, 0x00, 0xFD, 0x8002, 0x25, 2, 0x00] := by decide

/-- V46.18, R349. -/
theorem test_nop1A :
    ran (atStart [0x1A] startCpu []) 0x0 =
      some [0x00, 0x00, 0x00, 0xFD, 0x8001, 0x24, 2, 0x00] := by decide

/-- V46.19, R350. -/
theorem test_nopImm80 :
    ran (atStart [0x80, 0xFF] startCpu []) 0x0 =
      some [0x00, 0x00, 0x00, 0xFD, 0x8002, 0x24, 2, 0x00] := by decide

/-- V46.20, R351. -/
theorem test_nopAbs :
    ran (atStart [0x0C, 0x00, 0x02] startCpu []) 0x0 =
      some [0x00, 0x00, 0x00, 0xFD, 0x8003, 0x24, 4, 0x00] := by decide

/-- V46.21, R351: abs,X NOP crossing: +1. -/
theorem test_nopAbsx1C :
    ran (atStart [0x1C, 0xFF, 0x02] ({ startCpu with x := 0x01#8 }) []) 0x0 =
      some [0x00, 0x01, 0x00, 0xFD, 0x8003, 0x24, 5, 0x00] := by decide

/-- V46.22, R351: zp,X NOP. -/
theorem test_nopZpx14 :
    ran (atStart [0x14, 0xF0] ({ startCpu with x := 0x20#8 }) []) 0x0 =
      some [0x00, 0x20, 0x00, 0xFD, 0x8002, 0x24, 4, 0x00] := by decide

/-- V46.23, R352. -/
theorem test_ancImm0B :
    ran (enabled (atStart [0x0B, 0x80] ({ startCpu with a := 0xFF#8 }) [])) 0x0 =
      some [0x80, 0x00, 0x00, 0xFD, 0x8002, 0xA5, 2, 0x00] := by decide

/-- V46.25, R353. -/
theorem test_alrImm :
    ran (enabled (atStart [0x4B, 0x03] ({ startCpu with a := 0xFF#8 }) [])) 0x0 =
      some [0x01, 0x00, 0x00, 0xFD, 0x8002, 0x25, 2, 0x00] := by decide

/-- V46.26, R354. -/
theorem test_arrImm :
    ran (enabled (atStart [0x6B, 0xC0] ({ startCpu with a := 0xFF#8 }) [])) 0x0 =
      some [0x60, 0x00, 0x00, 0xFD, 0x8002, 0x25, 2, 0x00] := by decide

/-- V46.27, R354. -/
theorem test_arrImm_again :
    ran (enabled (atStart [0x6B, 0xFF] ({ startCpu with a := 0xFF#8, p := unpack 0x25#8 }) [])) 0x0 =
      some [0xFF, 0x00, 0x00, 0xFD, 0x8002, 0xA5, 2, 0x00] := by decide

/-- V46.28, R355. -/
theorem test_sbxImm :
    ran (enabled (atStart [0xCB, 0x01] ({ startCpu with a := 0xFF#8, x := 0x10#8 }) [])) 0x0 =
      some [0xFF, 0x0F, 0x00, 0xFD, 0x8002, 0x25, 2, 0x00] := by decide

/-- V46.29, R355: borrow: C = 0. -/
theorem test_sbxImm_again :
    ran (enabled (atStart [0xCB, 0x10] ({ startCpu with a := 0x0F#8, x := 0xFF#8, p := unpack 0x25#8 }) [])) 0x0 =
      some [0x0F, 0xFF, 0x00, 0xFD, 0x8002, 0xA4, 2, 0x00] := by decide

/-- V46.30, R356. -/
theorem test_lasAbsy :
    ran (enabled (atStart [0xBB, 0x00, 0x02] startCpu [(0x200, 0x0F)])) 0x200 =
      some [0x0D, 0x0D, 0x00, 0x0D, 0x8003, 0x24, 4, 0x0F] := by decide

/-! ## Interrupts, stall, halt and reset (spec/95_test_vectors.md) -/

/-- The handlers' vectors of section 3.8. -/
def vectors : List (Nat × Nat) := [(0xFFFB, 0xA0), (0xFFFF, 0xB0)]

/-- V60.8: a due NMI before a pending IRQ; the pushed status at 0x01FB has B = 0. -/
theorem test_nmi_first :
    ran { atStart [0xEA] { startCpu with p := unpack 0x20#8 } vectors with
          nmiPending := true, nmiDelay := 0, irqRequest := 2#3 } 0x1FB =
      some [0x00, 0x00, 0x00, 0xFA, 0xA000, 0x24, 7, 0x20] := by decide

/-- V60.5: an IRQ with I = 0 and C = 1. -/
theorem test_irq :
    ran { atStart [0xEA] { startCpu with p := unpack 0x21#8 } vectors with irqRequest := 5#3 } 0x1FB =
      some [0x00, 0x00, 0x00, 0xFA, 0xB000, 0x25, 7, 0x21] := by decide

/-- V60.4: an IRQ with I = 1 waits; the NOP runs. -/
theorem test_irq_masked :
    ran { atStart [0xEA] startCpu vectors with irqRequest := 2#3 } 0x1FB =
      some [0x00, 0x00, 0x00, 0xFD, 0x8001, 0x24, 2, 0x00] := by decide

/-- V60.2: the stall runs before an NMI that is not due. -/
theorem test_stall :
    ran (requestNmi (stall 513 (atStart [0xEA] startCpu vectors))) 0x1FB =
      some [0x00, 0x00, 0x00, 0xFD, 0x8000, 0x24, 513, 0x00] := by decide

/-- V46.31: JAM halts with 0 cycles and leaves PC. -/
theorem test_halt :
    ran (atStart [0x02] startCpu []) 0x8000 = some [0x00, 0x00, 0x00, 0xFD, 0x8000, 0x24, 0, 0x02] := by decide

/-- V46.24: ANC with the optional group disabled halts. -/
theorem test_anc_disabled :
    ran (atStart [0x0B, 0x80] { startCpu with a := 0xFF#8 } []) 0 =
      some [0xFF, 0x00, 0x00, 0xFD, 0x8000, 0x24, 0, 0x00] := by decide

/-- V70.1: the reset vector, S and I. -/
theorem test_reset_vector :
    let t := cpuReset (atStart [0x34, 0x12] { startCpu with sp := 0x00#8, pc := 0xFFFC#16, p := unpack 0x20#8 } [])
    t.cpu.pc = 0x1234#16 ∧ t.cpu.sp = 0xFD#8 ∧ t.cpu.p.i = true := by decide

/-- The state after the first reset of a console with the blank cartridge is `State.reset` (R66, R700, R702). -/
theorem test_reset_is_power_on_then_reset : cpuReset (State.powerOn Cartridge.blank .nrom []) = State.reset := by decide

/-! ## The host's two entry points -/

theorem test_table_word_lda : decodeTableWord 16 0x80A9 = some (.ldaImm 0x80#8) := by decide

theorem test_table_word_jsr : decodeTableWord 24 0x900020 = some (.jsr 0x9000#16) := by decide

theorem test_table_word_brk : decodeTableWord 16 0x0000 = some .brk := by decide

/-- V40.2 as the first instruction after reset. -/
theorem test_fetch_word_lda :
    (match step (State.reset.withFetchWord 16 0x80A9) with
     | .next t => decide (t.cpu.a = 0x80#8 ∧ t.stepCycles = 2)
     | .fault _ => false
     | .refused _ => false) = true := by decide

/-! ## Well-formedness: each check refuses an ill-formed term (R168, R169, R170) -/

theorem test_jam_is_ill_formed : (Instr.jam02).wellFormed true = false := by decide

theorem test_ane_is_ill_formed : (Instr.ane).wellFormed true = false := by decide

theorem test_sha_is_ill_formed : (Instr.sha9F).wellFormed true = false := by decide

theorem test_anc_is_ill_formed_when_disabled : (Instr.ancImm0B 0x12#8).wellFormed false = false := by decide

theorem test_las_is_ill_formed_when_disabled : (Instr.lasAbsy 0x1234#16).wellFormed false = false := by decide

theorem test_anc_is_well_formed_when_enabled : (Instr.ancImm0B 0x12#8).wellFormed true = true := by decide

theorem test_official_is_well_formed : (Instr.ldaImm 0x12#8).wellFormed false = true := by decide

/-! ## Witnesses: for every statement with hypotheses, concrete data that meet all of them together -/

/-- A console state with RAM in block 0 and a NOP at PC, in RAM. -/
def console : State :=
  { State.reset with cpu := { startCpu with pc := 0x0200#16 }, ram := [(0x200, 0xEA#8)] }

/-- The same with another opcode at PC. -/
def consoleAt (op : Byte) : State := { console with ram := [(0x200, op)] }

/-- A machine whose handlers are all one kind. -/
def allSlots (h : Handler) : State :=
  { State.reset with readSlot := Vector.replicate 8 h, writeSlot := Vector.replicate 8 h }

theorem test_witness_console_inv : console.Inv := by decide

theorem test_witness_encode_of_decode :
    decode [0xA9#8, 0x80#8] = .ok (.ldaImm 0x80#8) [] ∧ decode [0x00#8] = .ok .brk [] ∧
    decode [0x00#8, 0xEA#8, 0x02#8] = .ok .brk [0x02#8] := by decide

theorem test_witness_lengths_and_base_cycles :
    (entryOf 0x00#8).isMarker true = false ∧ (entryOf 0x0B#8).isMarker true = false ∧
    (entryOf 0xFE#8).isMarker true = false := by decide

/-- n = 0 for an implied opcode, for BRK and for an unknown marker, 1 and 2 for the others. -/
theorem test_witness_fetch_reads_exactly :
    (entryOf 0xEA#8).operandBytes = 0 ∧ (entryOf 0x00#8).operandBytes = 0 ∧ (entryOf 0x02#8).isMarker false = true ∧
    (entryOf 0xA9#8).operandBytes = 1 ∧ (entryOf 0x4C#8).operandBytes = 2 := by decide

/-- One instruction of each class, one of each other kind. -/
theorem test_witness_data_accesses :
    (∃ t, exec (.ldaZp 0x10#8) console = .next t) ∧ (entryOf 0xA5#8).isMarker false = false ∧
    (Instr.ldaZp 0x10#8).operand = .mem (.zp 0x10#8) ∧ (entryOf 0xA5#8).cls = .read ∧
    (∃ t, exec (.staZp 0x10#8) console = .next t) ∧ (Instr.staZp 0x10#8).operand = .mem (.zp 0x10#8) ∧
    (entryOf 0x85#8).cls = .write ∧
    (∃ t, exec (.incZp 0x10#8) console = .next t) ∧ (Instr.incZp 0x10#8).operand = .mem (.zp 0x10#8) ∧
    (entryOf 0xE6#8).cls = .rmw ∧
    (.tax, ({ x := true, z := true, n := true } : Writes)) ∈ registerForms 0#8 0#8 ∧
    (entryOf 0xA9#8).mode = .imm ∧ (entryOf 0x0A#8).mode = .acc ∧ (entryOf 0xD0#8).mode = .rel :=
  ⟨⟨_, rfl⟩, by decide, rfl, rfl, ⟨_, rfl⟩, rfl, rfl, ⟨_, rfl⟩, rfl, rfl, by simp [registerForms], rfl, rfl, rfl⟩

theorem test_witness_optional_group_enabled : (enabled console).params.extraUnofficial = true := by decide

theorem test_witness_unknown_markers_halt :
    console.params.extraUnofficial = false ∧ (0x02#8, Instr.jam02) ∈ halting ∧
    (0xF2#8, Instr.jamF2) ∈ halting := by decide

theorem test_witness_non_storing_frame :
    (∃ t, exec (.ldaZp 0x10#8) console = .next t) ∧
    (⟨0xA5#8, .ldaZp 0x10#8, .mem (.zp 0x10#8), 3, .never⟩ : Rules.Form Source) ∈ lda 0x10#8 0#8 ∧
    (∃ t, exec .tax console = .next t) ∧
    (∃ t, exec (.sbxImm 0x10#8) (enabled console) = .next t) ∧ (enabled console).params.extraUnofficial = true ∧
    (.sbxImm 0x10#8, ({ x := true, c := true, z := true, n := true } : Writes)) ∈ optionalForms 0x10#8 ∧
    (∃ t, exec (.lasAbsy 0x0010#16) (enabled console) = .next t) ∧
    (⟨0xBB#8, .lasAbsy 0x0010#16, .mem (.absy 0x0010#16), 4, .always⟩ : Rules.Form Source) ∈ las 0x10#8 0#8 :=
  ⟨⟨_, rfl⟩, by simp [lda], ⟨_, rfl⟩, ⟨_, rfl⟩, by decide, by simp [optionalForms], ⟨_, rfl⟩, by simp [las]; rfl⟩

/-- A console with a mapper of the contract: a device of its own in block 3, its PRG-ROM above from offset 0x6000 on, and a window
of 1 KiB over it at an offset that no bank starts at. -/
def contractConsole : State :=
  let installs : List HandlerInstall := [.read 0x6000#16 0x7FFF#16 .mapperDevice, .write 0x6000#16 0x7FFF#16 .mapperDevice,
    .read 0x8000#16 0xFFFF#16 .cartridge, .write 0x8000#16 0xFFFF#16 .cartridge]
  let windows : List PrgWindow := [⟨0x8000#16, 0xFFFF#16, 0x6000⟩, ⟨0x8400#16, 0x87FF#16, 0x1234⟩]
  installDevices { console with mapper := .contract windows installs [] }

/-- STA zp stores at 0x0010, which is memory; 0x0011 is apart from it, and its mirror 0x0810 is not. A write to the mapper's
register is apart from RAM while the mapper makes no calls, and from nothing once it may. -/
theorem test_witness_storing_frame :
    (pointersPlain (.zp 0x10#8) console ∧ (entryOf 0x85#8).cls = .write) ∧ console.mapper.callsBack = false ∧
    (∃ t, exec (.staZp 0x10#8) console = .next t) ∧
    (⟨0x85#8, .staZp 0x10#8, .zp 0x10#8, 3, .never⟩ : Rules.Form MemOperand) ∈ sta 0x10#8 0#8 ∧
    apart 0x0011#16 0x0010#16 console ∧ ¬apart 0x0810#16 0x0010#16 console ∧ writePlace 0x0010#16 console ≠ none ∧
    apart 0x0011#16 0x8000#16 console ∧ ¬apart 0x8000#16 0x8000#16 console ∧ ¬apart 0x0011#16 0x8000#16 contractConsole ∧
    apart 0x8000#16 0x0010#16 contractConsole :=
  ⟨⟨trivial, rfl⟩, rfl, ⟨_, rfl⟩, by simp [sta], by unfold apart; decide, by unfold apart; decide, by decide,
    by unfold apart; decide, by unfold apart; decide, by unfold apart; decide, by unfold apart; decide⟩

/-- A pointer form that reads and writes memory: all clauses of StoringFrame about plain memory together. The operands of
NonStoringFrame: an immediate one, one behind a pointer, and one at the last address. -/
theorem test_witness_plain_operands :
    pointersPlain (.izx 0x10#8) console ∧ writePlace (effectiveAddress (.izx 0x10#8) console).addr console ≠ none ∧
    (console.readSlot[blockOf (effectiveAddress (.izx 0x10#8) console).addr]).isPlain = true ∧
    (∃ t, exec (.isbIzx 0x10#8) console = .next t) ∧
    operandPlain (.imm 0x10#8) console ∧ operandPlain (.mem (.izy 0x10#8)) console ∧
    operandPlain (.mem (.abs 0xFFFF#16)) console ∧ ¬operandPlain (.mem (.abs 0x2002#16)) console :=
  ⟨by unfold pointersPlain; decide, by decide, by decide, ⟨_, rfl⟩, trivial,
    ⟨by unfold pointersPlain; decide, by decide⟩, ⟨trivial, by decide⟩, fun h => absurd h.2 (by decide)⟩

/-- BRK pushes at 0x01FD, 0x01FC and 0x01FB; 0x01FA is apart from all three. -/
theorem test_witness_stack_frame :
    (∃ t, exec .brk console = .next t) ∧
    (.brk, 3, ({ sp := true, i := true } : Writes)) ∈ stackForms 0#8 0#8 ∧
    (stackPlain .brk console ∧ stackPlain .pha console ∧ stackPlain .rti console ∧
      stackPlain (.jmpInd 0x00FF#16) console) ∧ console.mapper.callsBack = false ∧
    ∀ k : Nat, k < 3 → apart 0x01FA#16 (page1 (console.cpu.sp - BitVec.ofNat 8 k)) console := by
  refine ⟨⟨_, rfl⟩, by simp [stackForms], by unfold stackPlain; decide, rfl, ?_⟩
  unfold apart
  decide

theorem test_witness_step_runs_the_decoded_instruction :
    fetches (consoleAt 0xA9#8) ∧ ((consoleAt 0xA9#8).readSlot[blockOf 0x0200#16]).isPlain = true ∧
    ((consoleAt 0xA9#8).readSlot[blockOf 0x0201#16]).isPlain = true ∧
    ((consoleAt 0xA9#8).readSlot[blockOf 0x0202#16]).isPlain = true ∧
    decode [(busRead 0x0200#16 (consoleAt 0xA9#8)).1, (busRead 0x0201#16 (consoleAt 0xA9#8)).1,
      (busRead 0x0202#16 (consoleAt 0xA9#8)).1] = .ok (.ldaImm 0#8) [0#8] ∧
    (Instr.ldaImm 0#8).wellFormed (consoleAt 0xA9#8).params.extraUnofficial = true := by
  unfold fetches; decide

/-- R611, each condition by itself: a breakpoint at the new PC, a watched opcode read, a watched data write, and nothing. The
write watch of 0x0200 and the breakpoint at the old PC do not pause. -/
theorem test_debug_check :
    let pausedBy (d : Debug) (s : State) : Option Bool :=
      match step (setDebug d s) with
      | .next t => some t.paused
      | .fault _ => none
      | .refused _ => none
    let none : Debug := console.debugCfg
    let sta : State := { console with ram := [(0x200, 0x85#8), (0x201, 0x10#8)] }
    pausedBy none console = some false ∧
    pausedBy { none with breakpoints := [0x0201#16] } console = some true ∧
    pausedBy { none with breakpoints := [0x0200#16], writeWatch := [0x0200#16] } console = some false ∧
    pausedBy { none with readWatch := [0x0200#16] } console = some true ∧
    pausedBy { none with writeWatch := [0x0010#16] } sta = some true ∧
    pausedBy { none with readWatch := [0x0010#16] } sta = some false := by decide

/-- R611: breakOnNmi with an NMI taken, breakOnIrq with an IRQ taken, and each with the other. -/
theorem test_debug_check_interrupts :
    let pausedBy (d : Debug) (s : State) : Option Bool :=
      match step (setDebug d s) with
      | .next t => some t.paused
      | .fault _ => none
      | .refused _ => none
    let nmi : State := { console with nmiPending := true, nmiDelay := 0 }
    let irq : State := { console with irqRequest := 1#3, cpu := { startCpu with p := unpack 0x20#8 } }
    pausedBy { nmi.debugCfg with breakOnNmi := true } nmi = some true ∧
    pausedBy { nmi.debugCfg with breakOnIrq := true } nmi = some false ∧
    pausedBy { irq.debugCfg with breakOnIrq := true } irq = some true ∧
    pausedBy { irq.debugCfg with breakOnNmi := true } irq = some false := by decide

theorem test_witness_software_interrupt : ¬reachesMapper 0x0100#16 console := by decide

theorem test_witness_step_keeps_the_invariant : console.Inv ∧ ∃ t, step console = .next t :=
  ⟨by decide, ⟨_, rfl⟩⟩

/-- The four cases of a step: an instruction, the halt, a service that clears the mask, and a paused step; a mapper that
cannot call back and one that can. -/
theorem test_witness_step_leaves_host_state_alone :
    console.mapper.callsBack = false ∧ contractConsole.mapper.callsBack = true ∧
    installDevices console = console ∧ installDevices contractConsole = contractConsole ∧
    (∃ t, step console = .next t) ∧ (∃ t, step (consoleAt 0x02#8) = .next t ∧ t.paused = true) ∧
    irqDue { console with irqRequest := 1#3, cpu := { startCpu with p := unpack 0x20#8 } } = true ∧
    (setPaused true console).paused = true :=
  ⟨rfl, rfl, by decide, by decide, ⟨_, rfl⟩, ⟨_, rfl, by decide⟩, by decide, rfl⟩

theorem test_witness_paused_and_stall_steps :
    (setPaused true console).paused = true ∧
    (let s := stall 1 console
     s.paused = false ∧ nmiDue s = false ∧ irqDue s = false ∧ 0 < s.stallCycles) := by decide

/-- A delay of exactly 0 is due; a delay of 1 is not, so an IRQ goes first. -/
theorem test_witness_interrupt_service :
    (let s := { console with nmiPending := true, nmiDelay := 0 }
     s.paused = false ∧ s.nmiPending = true ∧ s.nmiDelay ≤ 0) ∧
    (let s := { console with nmiPending := true, nmiDelay := 1, irqRequest := 4#3,
                             cpu := { startCpu with p := unpack 0x20#8 } }
     s.paused = false ∧ ¬(s.nmiPending = true ∧ s.nmiDelay ≤ 0) ∧ s.irqRequest ≠ 0#3 ∧ s.cpu.p.i = false) := by decide

theorem test_witness_illegal_opcode_halt :
    fetches (consoleAt 0x02#8) ∧ (entryOf (busRead 0x0200#16 (consoleAt 0x02#8)).1).isMarker false = true ∧
    ((consoleAt 0x02#8).readSlot[blockOf 0x0200#16]).isPlain = true := by
  unfold fetches; decide

/-- A 2-cycle instruction, an IRQ, and a stall of exactly two cycles. -/
theorem test_witness_nmi_is_due :
    console.paused = false ∧ console.nmiPending = false ∧
    (∃ t, step (requestNmi console) = .next t ∧ t.faults = console.faults) ∧ fetches (requestNmi console) ∧
    irqDue { console with irqRequest := 1#3, cpu := { startCpu with p := unpack 0x20#8 } } = true ∧
    2 ≤ (stall 2 console).stallCycles :=
  ⟨rfl, rfl, ⟨_, rfl, by decide⟩, by unfold fetches; decide, by decide, by decide⟩

theorem test_witness_interrupt_mask :
    fetches (consoleAt 0x58#8) ∧ (busRead 0x0200#16 (consoleAt 0x58#8)).1 = 0x58#8 ∧
    fetches (consoleAt 0x78#8) ∧ (busRead 0x0200#16 (consoleAt 0x78#8)).1 = 0x78#8 ∧
    ((consoleAt 0x78#8).readSlot[blockOf 0x0200#16]).isPlain = true := by
  unfold fetches; decide

/-- ReturnUndoesEntry and ReturnUndoesCall. -/
theorem test_witness_returns :
    console.Inv ∧ console.readSlot[(0 : Fin 8)] = .ram ∧ console.writeSlot[(0 : Fin 8)] = .ram := by decide

/-- 0x0FFF is a mirror of 0x07FF; 0x07FE is apart from it; 0x1FFF is the last address of RAM. -/
theorem test_witness_read_after_write :
    console.Inv ∧ writePlace 0x07FF#16 console ≠ none ∧ readPlace 0x0FFF#16 console = writePlace 0x07FF#16 console ∧
    apart 0x07FE#16 0x07FF#16 console ∧ console.readSlot[(0 : Fin 8)] = .ram ∧ console.writeSlot[(0 : Fin 8)] = .ram ∧
    (0x1FFF#16).toNat < 8192 ∧ (0x1FFF#16).toNat % 2048 = (0x07FF#16).toNat % 2048 := by
  unfold apart; decide

theorem test_witness_installing_handlers :
    (allSlots .unmapped).readSlot[blockOf 0xFFFF#16] = .unmapped ∧
    (allSlots .unmapped).writeSlot[blockOf 0x0000#16] = .unmapped := by decide

/-- The reference mappers, at both ends of both bank windows, and a mapper of the contract: its register, its own device, and
reads of PRG-ROM at both ends. -/
theorem test_witness_mapper_banks :
    console.writeSlot[blockOf 0x8000#16] = .cartridge ∧ console.readSlot[blockOf 0xBFFF#16] = .cartridge ∧
    console.readSlot[blockOf 0xC000#16] = .cartridge ∧ console.readSlot[blockOf 0xFFFF#16] = .cartridge ∧
    0 < console.cart.prgBanks ∧ 0x8000 ≤ (0x8000#16).toNat ∧ (0xBFFF#16).toNat < 0xC000 ∧
    ¬(0xC000#16).toNat < 0xC000 ∧ console.mapper = .nrom ∧
    (∃ windows installs, contractConsole.mapper = .contract windows installs []) ∧ 0 < contractConsole.cart.prgBanks ∧
    reachesMapper 0xFFFF#16 contractConsole ∧ reachesMapper 0x6000#16 contractConsole ∧
    contractConsole.writeSlot[blockOf 0x7FFF#16] = .mapperDevice ∧
    contractConsole.readSlot[blockOf 0x8000#16] = .cartridge ∧
    (mapperCall contractConsole (.install (.read 0x6000#16 0x7FFF#16 .prgRam))).readSlot[blockOf 0x7FFF#16] = .prgRam ∧
    ({ console with mapper := .uxrom 1 } : State).mapper = .uxrom 1 := by
  refine ⟨?_, ?_, ?_, ?_, ?_, ?_, ?_, ?_, ?_, ⟨_, _, rfl⟩, ?_⟩ <;> decide

/-- R641: the read handlers choose the offset of an address: the last window over it decides, of any size and at any offset; an
offset past the end wraps. -/
theorem test_contract_offsets :
    let m := contractConsole.mapper
    prgOffset m 4 0x8000#16 = 0x6000 ∧ prgOffset m 4 0x83FF#16 = 0x63FF ∧ prgOffset m 4 0x8400#16 = 0x1234 ∧
    prgOffset m 4 0x87FF#16 = 0x1633 ∧ prgOffset m 4 0x8800#16 = 0x6800 ∧ prgOffset m 2 0xFFFF#16 = 0x5FFF := by decide

/-- R120, R641: an offset that a mapper chooses serves the next read. -/
theorem test_mapper_window :
    let s := { contractConsole with cart := { contractConsole.cart with prg := [(5, 0x12#8)] } }
    (busRead 0x9001#16 (mapperCall s (.setPrgWindow ⟨0x9000#16, 0x9001#16, 4⟩))).1 = 0x12#8 := by decide

/-- R104, R120, R641: a handler that a mapper installs serves the next access in its blocks only, also after a load (R647). -/
theorem test_mapper_installs :
    let s := { contractConsole with prgRam := [(0, 0x12#8)] }
    let t := mapperCall s (.install (.read 0x6000#16 0x7FFF#16 .prgRam))
    (busRead 0x6000#16 t).1 = 0x12#8 ∧ t.writeSlot[(3 : Fin 8)] = .mapperDevice ∧ t.readSlot[(4 : Fin 8)] = .cartridge ∧
    (busRead 0x6000#16 (loadState (saveState t) console)).1 = 0x12#8 ∧
    (mapperCall s (.install (.write 0x5FFF#16 0x6000#16 .prgRam))).writeSlot[(2 : Fin 8)] = .prgRam := by decide

/-- R641: a mapper may use DISK as well as EXTERNAL, and withdraws one source alone. -/
theorem test_mapper_requests :
    (mapperCall contractConsole (.requestIrq .disk)).irqRequest = 4#3 ∧
    (mapperCall { contractConsole with irqRequest := 7#3 } (.clearIrqRequest .external)).irqRequest = 5#3 := by decide

/-- R121: a write to a device of a mapper is recorded, and a read of it changes nothing but the history. -/
theorem test_mapper_device :
    (busRead 0x6001#16 contractConsole).2 = { contractConsole with deviceLog := [⟨0x6001#16, none⟩] } := by decide

/-- CTRL, SCROLL and ADDR at the first and at the last copies of the window. -/
theorem test_witness_ppu_write_latch :
    console.ppu.w = false ∧ console.writeSlot[blockOf 0x2000#16] = .ppu ∧ console.writeSlot[blockOf 0x3FFD#16] = .ppu ∧
    console.writeSlot[blockOf 0x3FFE#16] = .ppu ∧ (0x2000#16).toNat % 8 = 0 ∧ (0x3FFD#16).toNat % 8 = 5 ∧
    (0x3FFE#16).toNat % 8 = 6 := by decide

/-- Two CHR-RAM addresses, the last pair below the palette, and the first and last pairs of the palette. -/
theorem test_witness_ppu_data_buffer :
    console.writeSlot[blockOf 0x2006#16] = .ppu ∧ console.writeSlot[blockOf 0x3FFF#16] = .ppu ∧
    console.readSlot[blockOf 0x3FFF#16] = .ppu ∧ (0x2006#16).toNat % 8 = 6 ∧ (0x3FFF#16).toNat % 8 = 7 ∧
    console.ppu.current.ctrl.toNat / 4 % 2 = 0 ∧ (0x04#8).toNat / 4 % 2 = 1 ∧
    0x3F00 ≤ (0x3F00#15).toNat % 0x4000 ∧ 0x3F00 ≤ (0x7FFF#15).toNat % 0x4000 ∧ ¬0x3F00 ≤ (0x3EFF#15).toNat % 0x4000 ∧
    ¬0x3F00 ≤ (0x4000#15).toNat % 0x4000 ∧
    (0x3E#8).toNat % 64 * 256 + (0xBF#8).toNat + 2 * 32 < 0x3F00 ∧
    console.ppu.w = false ∧ console.ppu.vram.wf = true ∧
    console.cart.hasChrRom = false ∧ (0x00#8).toNat % 64 * 256 + (0x00#8).toNat + 1 < 0x3F00 ∧
    (0x3E#8).toNat % 64 * 256 + (0xFE#8).toNat + 1 < 0x3F00 ∧ 0x2000 ≤ (0x3E#8).toNat % 64 * 256 + (0xFE#8).toNat ∧
    0x3F00 ≤ (0x3F#8).toNat % 64 * 256 + (0x00#8).toNat ∧
    (0x3F#8).toNat % 64 * 256 + (0xFE#8).toNat + 1 < 0x4000 := by decide

/-- The boundaries of the three ranges. -/
theorem test_witness_video_address_decode :
    0x2000 ≤ (0x2000#14).toNat ∧ (0x3EFF#14).toNat < 0x3F00 ∧ 0x3F00 ≤ (0x3F00#14).toNat ∧
    (0x1FFF#14).toNat < 0x2000 ∧ videoTarget false (HStatus.powerOn 0x50#8) 0x3F10#14 = .video 0x3F00 ∧
    videoTarget false (HStatus.powerOn 0x50#8) 0x3EFF#14 = .video 0x26FF ∧
    ({ Cartridge.blank with chrBanks := 1 } : Cartridge).hasChrRom = true := by decide

/-- R635 with CTRL[2] = 1: DATA writes at 0x2000 and 0x2020, read back through the window after a dummy read. -/
theorem test_data_increment_32 :
    let w (a : Word) (d : Byte) (s : State) : State := busWrite a d s
    let s := w 0x2007#16 0x34#8 (w 0x2007#16 0x12#8 (w 0x2006#16 0x00#8 (w 0x2006#16 0x20#8 (w 0x2000#16 0x04#8 console))))
    let r := busRead 0x2007#16 (w 0x2006#16 0x20#8 (w 0x2006#16 0x20#8 s))
    s.ppu.v = 0x2040#15 ∧ r.2.ppu.v = 0x2040#15 ∧ (busRead 0x2007#16 r.2).1 = 0x34#8 := by decide

/-- R633: an OAMADDR write and two OAMDATA writes through the window; the index wraps. -/
theorem test_oam_data_writes :
    let s := busWrite 0x2004#16 0x22#8 (busWrite 0x2004#16 0x11#8 (busWrite 0x2003#16 0xFF#8 console))
    s.ppu.oamAddr = 0x01#8 ∧ s.ppu.oam.read 255 = 0x11#8 ∧ s.ppu.oam.read 0 = 0x22#8 := by decide

theorem test_witness_ppu_register_access :
    console.writeSlot[blockOf 0x2004#16] = .ppu ∧ console.ppu.oam.wf = true ∧
    console.readSlot[blockOf 0x2002#16] = .ppu ∧ (0x2002#16).toNat % 8 = 2 ∧
    console.readSlot[blockOf 0x3FFC#16] = .ppu ∧ (0x3FFC#16).toNat % 8 = 4 ∧ (0x2000#16).toNat % 8 = 0 ∧
    (0x2001#16).toNat % 8 = 1 ∧ (0x2003#16).toNat % 8 = 3 ∧ (0x2005#16).toNat % 8 = 5 ∧
    (0x2006#16).toNat % 8 = 6 := by decide

/-- Page 2, and the last page, where the addresses wrap nowhere. -/
theorem test_witness_oam_dma :
    console.Inv ∧ console.writeSlot[(2 : Fin 8)] = .apuIo ∧
    (console.readSlot[blockOf (BitVec.ofNat 16 (256 * (0x02#8).toNat))]).isPlain = true ∧
    (console.readSlot[blockOf (BitVec.ofNat 16 (256 * (0xFF#8).toNat))]).isPlain = true := by decide

theorem test_witness_scanline_tick :
    console.ppu.scanline ≤ 261 ∧ console.ppu.scanline ≠ 240 ∧ console.ppu.scanline ≠ 260 ∧
    ({ console.ppu with scanline := 240 } : Ppu).scanline = 240 ∧
    ({ console.ppu with scanline := 260 } : Ppu).scanline = 260 ∧ 260 ≤ 261 ∧ console.mapper.callsBack = false ∧
    ({ console.ppu with scanline := 261 } : Ppu).scanline ≤ 261 ∧
    ({ console.ppu.current with ctrl := 0x80#8 } : HStatus).ctrl.getLsbD 7 = true ∧
    console.ppu.current.ctrl.getLsbD 7 = false ∧ console.nmiPending = false := by decide

/-- The console drawing a scanline, with rendering on. -/
def drawing (line : Nat) (mask : Byte) : State :=
  { console with ppu := { console.ppu with scanline := line, current := { console.ppu.current with mask := mask } } }

/-- R638: recording on at scanline 239 with MASK[3] or MASK[4], off at 240 and with neither bit. A SCROLL write that changes
neither t nor x is logged too. -/
theorem test_event_log :
    (busWrite 0x2000#16 0x90#8 (drawing 239 0x08#8)).ppu.recording = [⟨239, .ctrl 0x90#8⟩] ∧
    (busWrite 0x2005#16 0x00#8 (drawing 239 0x10#8)).ppu.recording = [⟨239, .scroll 0#15 0#3⟩] ∧
    (busWrite 0x2006#16 0x21#8 (drawing 0 0x10#8)).ppu.recording = [⟨0, .scroll 0x2100#15 0#3⟩] ∧
    (busWrite 0x2001#16 0x00#8 (drawing 240 0x18#8)).ppu.recording = [] ∧
    (busWrite 0x2001#16 0x18#8 (drawing 239 0xE7#8)).ppu.recording = [] ∧
    (setMirrorMode 0x44#8 (drawing 239 0x08#8)).ppu.recording = [⟨239, .mirror 0x44#8⟩] := by decide

/-- The registers at both ends of the window; recording on at 239, off at 240. -/
theorem test_witness_event_log :
    (8 ≤ (drawing 239 0x08#8).ppu.current.mask.toNat % 32 ∧ (drawing 239 0x08#8).ppu.scanline < 240) ∧
    ¬(drawing 240 0x08#8).ppu.scanline < 240 ∧ ¬8 ≤ (0xE7#8).toNat % 32 ∧
    (0x2005#16).toNat % 8 = 5 ∧ (0x3FFE#16).toNat % 8 = 6 ∧
    console.writeSlot[blockOf 0x2000#16] = .ppu ∧ (0x2000#16).toNat % 8 = 0 ∧ (0x3FF9#16).toNat % 8 = 1 ∧
    (0x2002#16).toNat % 8 = 2 ∧ (0x2003#16).toNat % 8 = 3 ∧ (0x2004#16).toNat % 8 = 4 ∧
    (0x2007#16).toNat % 8 = 7 := by decide

theorem test_witness_reset_procedure : (console.readSlot[(7 : Fin 8)]).isPlain = true := by decide

theorem test_witness_request_operations :
    console.nmiPending = false ∧ (requestNmi console).nmiPending = true ∧ 2 < 3 ∧ 3 ≤ 3 := by decide

/-- A session to load into that differs in everything a save holds, and two machines that differ in the fault records. -/
theorem test_witness_load_of_save :
    installDevices console = console ∧
    (let t := { drawing 100 0x18#8 with cycleTotal := 7, ram := [], flat := [(0, 1#8)], paused := true }
     t.cart = console.cart ∧ t.params = console.params ∧ t ≠ console) ∧
    installDevices contractConsole = contractConsole ∧
    sameButRecords console { console with faults := [.illegalOpcode 0x02#8 0x0200#16], stepCycles := 2 } :=
  ⟨by decide, by decide, by decide, rfl⟩

/-- R647, R65: the parity of R640 and the device history come back with a load. -/
theorem test_load_restores_histories :
    let s := busWrite 0x4000#16 0x12#8 { console with cycleTotal := 7 }
    let t := loadState (saveState s) console
    t.cycleTotal = 7 ∧ t.deviceLog = [⟨0x4000#16, some 0x12#8⟩] ∧ t.ram = console.ram := by decide

/-- R647: memory behind the flat handler, which a mapper of the contract can install by a step, comes back with a load. -/
theorem test_load_restores_flat :
    let s := mapperCall { contractConsole with flat := [(0x6000, 0x12#8)] } (.install (.read 0x6000#16 0x7FFF#16 .flat))
    (busRead 0x6000#16 (loadState (saveState s) console)).1 = 0x12#8 := by decide

/-- A one-bank mapper 0 image with the vector 0x8000 and a mapper 2 image header; another mapper; no magic. -/
def image (h6 : Byte) (magic : Byte) : List Byte :=
  [magic, 0x45#8, 0x53#8, 0x1A#8, 0x01#8, 0x00#8, h6] ++ List.replicate 9 0#8 ++ List.replicate 16384 0x80#8

theorem test_witness_session_start :
    Memory.ok 2048 [] = true ∧
    (image 0x00#8 0x4F#8).take 4 ≠ [0x4E#8, 0x45#8, 0x53#8, 0x1A#8] ∧
    (image 0x10#8 0x4E#8).take 4 = [0x4E#8, 0x45#8, 0x53#8, 0x1A#8] ∧ ((image 0x10#8 0x4E#8).getD 6 0#8).toNat / 16 = 1 ∧
    (image 0x20#8 0x4E#8).take 4 = [0x4E#8, 0x45#8, 0x53#8, 0x1A#8] ∧ ((image 0x20#8 0x4E#8).getD 6 0#8).toNat / 16 = 2 ∧
    ((image 0x20#8 0x4E#8).getD 7 0#8).toNat / 16 = 0 ∧ ((image 0x20#8 0x4E#8).getD 6 0#8).toNat / 4 % 2 = 0 ∧
    ((image 0x20#8 0x4E#8).getD 4 0#8).toNat = 1 ∧ ((image 0x20#8 0x4E#8).getD 5 0#8).toNat = 0 ∧
    16 + 16384 * 1 + 8192 * 0 ≤ (image 0x20#8 0x4E#8).length := by
  refine ⟨rfl, by decide, rfl, rfl, rfl, rfl, rfl, rfl, rfl, rfl, ?_⟩
  simp only [image, List.length_append, List.length_replicate]
  decide

end Sys2Proof.Tests
end

section
/-! PROOFS. The operand forms of the spec against the model's operand operations: the bus accesses, the flag law and the
operand reads of `Sys2Proof.Rules` are the model's, and `withSource` and `storeAt` end as a form says whose numbers are those
of the instruction table. -/

namespace Sys2Proof.Rules

open Sys2Proof.Machine

/-! ## Accesses and flags -/

theorem cpuRead_eq_fetched (a : Word) (s : State) : cpuRead a s = fetched a s := by
  simp only [cpuRead, fetched, busRead_trace]

theorem cpuWrite_eq_written (a : Word) (v : Byte) (s : State) : cpuWrite a v s = written a v s := by
  simp only [cpuWrite, written, busWrite_trace]

theorem setNZ_eq_nz (v : Byte) (p : Flags) : setNZ v p = nz v p := setNZ_eq v p

theorem operandRead_eq_readSource (o : Source) (s : State) :
    operandRead o s = ((readSource o s).val, (readSource o s).crossed, (readSource o s).st) := by
  cases o with
  | imm b => rfl
  | mem m => simp only [operandRead, readSource, cpuRead_eq_fetched]

/-! ## Page crossings -/

/-- The memory modes that can cross a page: abs,X, abs,Y and (zp),Y (R709). -/
def memCrosses : MemOperand → Bool
  | .absx _ | .absy _ | .izy _ => true
  | .zp _ | .zpx _ | .zpy _ | .abs _ | .izx _ => false

/-- The source operands that can cross a page. -/
def sourceCrosses : Source → Bool
  | .imm _ => false
  | .mem m => memCrosses m

theorem memCrosses_of_crossed : ∀ {m : MemOperand} {s : State},
    (effectiveAddress m s).crossed = true → memCrosses m = true
  | .absx _, _, _ | .absy _, _, _ | .izy _, _, _ => rfl
  | .zp _, _, h | .zpx _, _, h | .zpy _, _, h | .abs _, _, h | .izx _, _, h => h

theorem sourceCrosses_of_crossed : ∀ {o : Source} {s : State}, (readSource o s).crossed = true → sourceCrosses o = true
  | .imm _, _, h => h
  | .mem _, _, h => memCrosses_of_crossed h

/-- The mark of an encoding line as R709 has it: by operation class, and none where no page is crossed. -/
def Plus.ofClass : AccessClass → Bool → Plus
  | .read, true => .always
  | .rmw, true => .whenRmw
  | .write, true | .none, true | _, false => .never

/-! ## Forms and the instruction table -/

/-- The length, the base cycles and the mark of a form are what the instruction table says of its opcode. -/
structure Form.Tabled {α : Type} (length : α → Nat) (crosses : α → Bool) (f : Form α) : Prop where
  length_eq : (entryOf f.opcode).length = length f.operand
  cycles_eq : (entryOf f.opcode).cycles = f.cycles
  plus_eq   : f.plus = Plus.ofClass (entryOf f.opcode).cls (crosses f.operand)

/-- A form of the table that decodes to its instruction, which runs the shared operation `op` of its mnemonic. -/
structure Form.Runs {α : Type} (length : α → Nat) (crosses : α → Bool) (op : Byte → α → State → State) (b1 b2 : Byte)
    (f : Form α) : Prop extends f.Tabled length crosses where
  decodes : f.decodes b1 b2
  exec_eq : ∀ s : State, exec f.instr s = .next (op f.opcode f.operand s)

/-- The same, for a form written out: its parts are compared with the table as literals, which `rfl` can evaluate. -/
theorem Form.Runs.of {α : Type} {length : α → Nat} {crosses : α → Bool} {op : Byte → α → State → State} {b1 b2 code : Byte}
    {i : Instr} {o : α} {cycles : Nat} {plus : Plus} (hl : (entryOf code).length = length o)
    (hc : (entryOf code).cycles = cycles) (hp : plus = Plus.ofClass (entryOf code).cls (crosses o))
    (hd : decodeOpcode code b1 b2 = i) (he : ∀ s : State, exec i s = .next (op code o s)) :
    (⟨code, i, o, cycles, plus⟩ : Form α).Runs length crosses op b1 b2 := ⟨⟨hl, hc, hp⟩, hd, he⟩

/-- What `u` does with the byte read changes only registers and flags, PC not among them, and does so by `g`. -/
structure ChangesCpu (u : Byte → State → State) (g : Byte → Cpu → Cpu) : Prop where
  eq : ∀ (m : Byte) (t : State), u m t = { t with cpu := g m t.cpu }
  pc : ∀ (m : Byte) (c : Cpu), (g m c).pc = c.pc

/-- The page-crossing cycles of a form (R709) are the table's. -/
theorem Form.Tabled.penalty_eq {α : Type} {length : α → Nat} {crosses : α → Bool} {f : Form α}
    (h : f.Tabled length crosses) {crossed : Bool} (hc : crossed = true → crosses f.operand = true) (s : State) :
    pagePenalty (entryOf f.opcode).cls crossed s.params.rmwPagePenalty = f.penalty crossed s := by
  rw [Form.penalty, h.plus_eq]
  cases crossed with
  | true =>
    rw [hc rfl]
    cases (entryOf f.opcode).cls <;> simp [pagePenalty, Plus.ofClass]
  | false =>
    cases (entryOf f.opcode).cls <;> cases crosses f.operand <;> simp [pagePenalty, Plus.ofClass]

/-- Completing a form's instruction in a state that still has the PC and the parameters of `s` (R45, R609). -/
theorem Form.Tabled.complete_eq_ends {α : Type} {length : α → Nat} {crosses : α → Bool} {f : Form α}
    (h : f.Tabled length crosses) {crossed : Bool} (hc : crossed = true → crosses f.operand = true) {s t : State}
    (hpc : t.cpu.pc = s.cpu.pc) (hp : t.params = s.params) :
    complete f.opcode crossed t = ends s (length f.operand) (f.cycles + f.penalty crossed s) t.cpu t := by
  rw [complete_eq, h.length_eq, h.cycles_eq, hp, h.penalty_eq hc, hpc]
  rfl

/-- The read class and the immediate forms. -/
theorem Form.Tabled.withSource_eq_reading {f : Form Source} (h : f.Tabled sourceLength sourceCrosses)
    {u : Byte → State → State} {g : Byte → Cpu → Cpu} (hu : ChangesCpu u g) (s : State) :
    withSource f.opcode f.operand u s = f.reading s g := by
  have hcpu := readSource_cpu f.operand s
  rw [withSource, hu.eq, h.complete_eq_ends (s := s) sourceCrosses_of_crossed (by rw [hu.pc, hcpu]) (by simp), hcpu,
    Form.reading, operandRead_eq_readSource]
  rfl

/-- The write class: whatever page is crossed, no cycle is added (R709). -/
theorem Form.Tabled.storeAt_eq_storing {f : Form MemOperand} (h : f.Tabled memLength memCrosses) (hn : f.plus = .never)
    (v : Byte) (s : State) : storeAt f.opcode f.operand v s = f.storing s v := by
  have hcpu : (cpuWrite (effectiveAddress f.operand s).addr v (effectiveAddress f.operand s).st).cpu = s.cpu := by simp
  rw [storeAt, h.complete_eq_ends (s := s) memCrosses_of_crossed (by rw [hcpu]) (by simp), hcpu, Form.penalty, hn,
    cpuWrite_eq_written]
  rfl

/-- A form whose operation reads its operand and then changes the CPU by `g` decodes, and ends so. -/
theorem Form.Runs.decodes_and_reads {op : Byte → Source → State → State} {b1 b2 : Byte} {f : Form Source}
    (h : f.Runs sourceLength sourceCrosses op b1 b2) {u : Byte → State → State} {g : Byte → Cpu → Cpu}
    (hop : ∀ (code : Byte) (o : Source) (s : State), op code o s = withSource code o u s) (hu : ChangesCpu u g) (s : State) :
    f.decodes b1 b2 ∧ exec f.instr s = .next (f.reading s g) :=
  ⟨h.decodes, by rw [h.exec_eq, hop, h.withSource_eq_reading hu]⟩

end Sys2Proof.Rules
end

section
/-! PROOFS. Loads and stores (spec/40_load_store.md, and R340, R341). Their forms run the shared operation of their
mnemonic, and that operation ends as the rule says. -/

namespace Sys2Proof.Rules

open Sys2Proof.Machine

/-! ## The loads -/

theorem lda_runs {b1 b2 : Byte} : ∀ f ∈ lda b1 b2, f.Runs sourceLength sourceCrosses opLda b1 b2 := by
  intro f hf
  fin_cases hf <;> exact .of rfl rfl rfl rfl fun _ => rfl

theorem ldx_runs {b1 b2 : Byte} : ∀ f ∈ ldx b1 b2, f.Runs sourceLength sourceCrosses opLdx b1 b2 := by
  intro f hf
  fin_cases hf <;> exact .of rfl rfl rfl rfl fun _ => rfl

theorem ldy_runs {b1 b2 : Byte} : ∀ f ∈ ldy b1 b2, f.Runs sourceLength sourceCrosses opLdy b1 b2 := by
  intro f hf
  fin_cases hf <;> exact .of rfl rfl rfl rfl fun _ => rfl

theorem lax_runs {b1 b2 : Byte} : ∀ f ∈ lax b1 b2, f.Runs sourceLength sourceCrosses opLax b1 b2 := by
  intro f hf
  fin_cases hf <;> exact .of rfl rfl rfl rfl fun _ => rfl

theorem lda_changesCpu : ChangesCpu (fun m t => t.setAFlags (m, setNZ m t.cpu.p)) fun m c => { c with a := m, p := nz m c.p } :=
  ⟨fun m t => by rw [setNZ_eq_nz]; rfl, fun _ _ => rfl⟩

theorem ldx_changesCpu : ChangesCpu (fun m t => t.setXFlags (m, setNZ m t.cpu.p)) fun m c => { c with x := m, p := nz m c.p } :=
  ⟨fun m t => by rw [setNZ_eq_nz]; rfl, fun _ _ => rfl⟩

theorem ldy_changesCpu : ChangesCpu (fun m t => t.setYFlags (m, setNZ m t.cpu.p)) fun m c => { c with y := m, p := nz m c.p } :=
  ⟨fun m t => by rw [setNZ_eq_nz]; rfl, fun _ _ => rfl⟩

theorem lax_changesCpu : ChangesCpu (fun m t => (t.setAFlags (m, setNZ m t.cpu.p)).setX m)
    fun m c => { c with a := m, x := m, p := nz m c.p } :=
  ⟨fun m t => by rw [setNZ_eq_nz]; rfl, fun _ _ => rfl⟩

/-- Settles O10: each form runs its mnemonic's operation, which reads the operand and then changes the CPU as the rule says. -/
theorem loadInstructions : Obligations.LoadInstructions := by
  intro b1 b2 s
  refine ⟨fun f hf => ?lda, fun f hf => ?ldx, fun f hf => ?ldy, fun f hf => ?lax⟩
  case lda => exact (lda_runs f hf).decodes_and_reads (fun _ _ _ => rfl) lda_changesCpu s
  case ldx => exact (ldx_runs f hf).decodes_and_reads (fun _ _ _ => rfl) ldx_changesCpu s
  case ldy => exact (ldy_runs f hf).decodes_and_reads (fun _ _ _ => rfl) ldy_changesCpu s
  case lax => exact (lax_runs f hf).decodes_and_reads (fun _ _ _ => rfl) lax_changesCpu s

/-! ## The stores -/

/-- A form of a pure write: its encoding line has no mark. -/
abbrev Form.Stores (op : Byte → MemOperand → State → State) (b1 b2 : Byte) (f : Form MemOperand) : Prop :=
  f.Runs memLength memCrosses op b1 b2 ∧ f.plus = .never

theorem sta_stores {b1 b2 : Byte} : ∀ f ∈ sta b1 b2, f.Stores opSta b1 b2 := by
  intro f hf
  fin_cases hf <;> exact ⟨.of rfl rfl rfl rfl fun _ => rfl, rfl⟩

theorem stx_stores {b1 b2 : Byte} : ∀ f ∈ stx b1 b2, f.Stores opStx b1 b2 := by
  intro f hf
  fin_cases hf <;> exact ⟨.of rfl rfl rfl rfl fun _ => rfl, rfl⟩

theorem sty_stores {b1 b2 : Byte} : ∀ f ∈ sty b1 b2, f.Stores opSty b1 b2 := by
  intro f hf
  fin_cases hf <;> exact ⟨.of rfl rfl rfl rfl fun _ => rfl, rfl⟩

theorem sax_stores {b1 b2 : Byte} : ∀ f ∈ sax b1 b2, f.Stores opSax b1 b2 := by
  intro f hf
  fin_cases hf <;> exact ⟨.of rfl rfl rfl rfl fun _ => rfl, rfl⟩

/-- A form whose operation stores `v` decodes, and ends with that one write. -/
theorem Form.Stores.decodes_and_stores {op : Byte → MemOperand → State → State} {b1 b2 : Byte} {f : Form MemOperand}
    (h : f.Stores op b1 b2) {v : Byte} {s : State}
    (hop : ∀ (code : Byte) (m : MemOperand), op code m s = storeAt code m v s) :
    f.decodes b1 b2 ∧ exec f.instr s = .next (f.storing s v) := by
  obtain ⟨hr, hn⟩ := h
  exact ⟨hr.decodes, by rw [hr.exec_eq, hop, hr.storeAt_eq_storing hn]⟩

/-- Settles O11: each form runs its mnemonic's operation, one write of the register at the effective address. -/
theorem storeInstructions : Obligations.StoreInstructions := by
  intro b1 b2 s
  refine ⟨fun f hf => ?sta, fun f hf => ?stx, fun f hf => ?sty, fun f hf => ?sax⟩
  case sta => exact (sta_stores f hf).decodes_and_stores fun _ _ => rfl
  case stx => exact (stx_stores f hf).decodes_and_stores fun _ _ => rfl
  case sty => exact (sty_stores f hf).decodes_and_stores fun _ _ => rfl
  case sax => exact (sax_stores f hf).decodes_and_stores fun _ _ => rfl

end Sys2Proof.Rules
end

section
/-! PROOFS. Register transfers (spec/41_transfer_stack.md R220 to R225), and the end they share with every other instruction
that computes no operand address: it crosses no page, so its length and its cycles are the table's. -/

namespace Sys2Proof.Rules

open Sys2Proof.Machine

/-! ## Ends that cross no page -/

theorem pagePenalty_not_crossed (cls : AccessClass) (rmwPays : Bool) : pagePenalty cls false rmwPays = 0 := by
  cases cls with
  | read | write | none => rfl
  | rmw => cases rmwPays <;> rfl

/-- An instruction that began in `s` and completes, without a page crossing, in `t` with the registers `c` (R45, R609). -/
theorem complete_eq_ends {op : Byte} {length cycles : Nat} {s t : State} {c : Cpu} (hl : (entryOf op).length = length)
    (hc : (entryOf op).cycles = cycles) (hpc : c.pc = s.cpu.pc) :
    complete op false { t with cpu := c } = ends s length cycles c t := by
  rw [complete_eq, hl, hc, pagePenalty_not_crossed, hpc]
  rfl

theorem exec_eq_ends {i : Instr} {op : Byte} {length cycles : Nat} {s t : State} {c : Cpu}
    (h : exec i s = .next (complete op false { t with cpu := c })) (hl : (entryOf op).length = length)
    (hc : (entryOf op).cycles = cycles) (hpc : c.pc = s.cpu.pc) : exec i s = .next (ends s length cycles c t) := by
  rw [h, complete_eq_ends hl hc hpc]

/-! ## The transfers -/

/-- Settles O12: each transfer completes with one register copied, and with N and Z of the copy unless it is TXS. -/
theorem transferInstructions : Obligations.TransferInstructions := by
  intro b1 b2 s
  refine ⟨rfl, ?tax, rfl, ?tay, rfl, ?txa, rfl, ?tya, rfl, ?tsx, rfl, ?txs⟩
  case tax => exact exec_eq_ends (op := 0xAA#8) (by rw [← setNZ_eq_nz]; rfl) rfl rfl rfl
  case tay => exact exec_eq_ends (op := 0xA8#8) (by rw [← setNZ_eq_nz]; rfl) rfl rfl rfl
  case txa => exact exec_eq_ends (op := 0x8A#8) (by rw [← setNZ_eq_nz]; rfl) rfl rfl rfl
  case tya => exact exec_eq_ends (op := 0x98#8) (by rw [← setNZ_eq_nz]; rfl) rfl rfl rfl
  case tsx => exact exec_eq_ends (op := 0xBA#8) (by rw [← setNZ_eq_nz]; rfl) rfl rfl rfl
  case txs => exact exec_eq_ends (op := 0x9A#8) rfl rfl rfl rfl

end Sys2Proof.Rules
end

section
/-! PROOFS. The read-modify-write class (R110, R171): `modifyAt` ends as a form says whose numbers are those of the
instruction table. -/

namespace Sys2Proof.Rules

open Sys2Proof.Machine

/-- With the registers `c` at its start, an instruction that makes the new byte and the flags by `core`, and then uses that
byte by `after`, stores `new` of the byte read and changes the registers by `g`, PC not among them. -/
structure ModifiesCpu (core : Byte → Flags → Byte × Flags) (after : Byte → State → State) (c : Cpu) (new : Byte → Byte)
    (g : Byte → Cpu → Cpu) : Prop where
  byte : ∀ m : Byte, (core m c.p).1 = new m
  eq : ∀ (m : Byte) (t : State), t.cpu = c → after (new m) (t.setFlags (core m c.p).2) = { t with cpu := g m c }
  pc : ∀ m : Byte, (g m c).pc = c.pc

theorem Form.Tabled.modifyAt_eq_modifying {f : Form MemOperand} (h : f.Tabled memLength memCrosses)
    {core : Byte → Flags → Byte × Flags} {after : Byte → State → State} {s : State} {new : Byte → Byte}
    {g : Byte → Cpu → Cpu} (hm : ModifiesCpu core after s.cpu new g) :
    modifyAt f.opcode f.operand core after s = f.modifying s new g := by
  have hcpu : (cpuRead (effectiveAddress f.operand s).addr (effectiveAddress f.operand s).st).2.cpu = s.cpu := by simp
  rw [modifyAt, hcpu, hm.byte, hm.eq _ _ (by simp),
    h.complete_eq_ends (s := s) memCrosses_of_crossed (hm.pc _) (by simp), cpuRead_eq_fetched, cpuWrite_eq_written]
  rfl

/-- A form whose operation modifies its byte so decodes, and ends so. -/
theorem Form.Runs.decodes_and_modifies {op : Byte → MemOperand → State → State} {b1 b2 : Byte} {f : Form MemOperand}
    (h : f.Runs memLength memCrosses op b1 b2) {core : Byte → Flags → Byte × Flags} {after : Byte → State → State} {s : State}
    {new : Byte → Byte} {g : Byte → Cpu → Cpu}
    (hop : ∀ (code : Byte) (m : MemOperand), op code m s = modifyAt code m core after s)
    (hm : ModifiesCpu core after s.cpu new g) :
    f.decodes b1 b2 ∧ exec f.instr s = .next (f.modifying s new g) :=
  ⟨h.decodes, by rw [h.exec_eq, hop, h.modifyAt_eq_modifying hm]⟩

end Sys2Proof.Rules
end

section
/-! PROOFS. Arithmetic and logic (spec/42_arith_logic.md R240 to R254, and R348). Their forms run the shared operation of
their mnemonic; the sum, the difference, the comparison and the bit test it computes are those of `Sys2Proof.Rules`. -/

namespace Sys2Proof.Rules

open Sys2Proof.Machine

/-! ## The sum -/

theorem adc_runs {b1 b2 : Byte} : ∀ f ∈ adc b1 b2, f.Runs sourceLength sourceCrosses opAdc b1 b2 := by
  intro f hf
  fin_cases hf <;> exact .of rfl rfl rfl rfl fun _ => rfl

/-- The model's AddCore on A and the flags is the rule's on the CPU (R230). -/
theorem machineAddCore_eq (m : Byte) (c : Cpu) :
    { c with a := (Machine.addCore c.a m c.p).1, p := (Machine.addCore c.a m c.p).2 } = addCore m c := by
  obtain ⟨hbyte, hflags⟩ := addCore_eq c.a m c.p
  rw [hbyte, hflags]
  rfl

theorem adc_changesCpu : ChangesCpu (fun m t => t.setAFlags (Machine.addCore t.cpu.a m t.cpu.p)) addCore :=
  ⟨fun m t => by rw [← machineAddCore_eq]; rfl, fun _ _ => rfl⟩

/-- Settles O14: each form runs ADC's operation, and AddCore is the binary sum of the rule, which does not read D. -/
theorem addWithCarry : Obligations.AddWithCarry :=
  fun _ _ s f hf => (adc_runs f hf).decodes_and_reads (fun _ _ _ => rfl) adc_changesCpu s

/-! ## The difference -/

theorem sbc_runs {b1 b2 : Byte} : ∀ f ∈ sbc b1 b2 ++ sbcEB b1 b2, f.Runs sourceLength sourceCrosses opSbc b1 b2 := by
  intro f hf
  fin_cases hf <;> exact .of rfl rfl rfl rfl fun _ => rfl

theorem toNat_xor_255 (m : Byte) : (m ^^^ 0xFF#8).toNat = 255 - m.toNat := by
  rw [show (0xFF#8 : Byte) = BitVec.allOnes 8 from rfl, BitVec.xor_allOnes, BitVec.toNat_not]

/-- `1 - C` (R241). -/
def borrow (carry : Bool) : Nat := if carry then 0 else 1

/-- Adding the complemented operand and C is subtracting the operand and the borrow, modulo 256. -/
theorem sum_of_complement (a m : Byte) (carry : Bool) :
    BitVec.ofNat 8 (a.toNat + (m ^^^ 0xFF#8).toNat + carry.toNat) = BitVec.ofInt 8 ((a.toNat : Int) - m.toNat - borrow carry) := by
  apply BitVec.eq_of_toNat_eq
  have := m.isLt
  rw [toNat_xor_255, BitVec.toNat_ofNat, BitVec.toNat_ofInt]
  cases carry <;> simp [borrow] <;> omega

/-- The carry out of that sum is the absence of a borrow. -/
theorem carry_of_complement (a m : Byte) (carry : Bool) :
    255 < a.toNat + (m ^^^ 0xFF#8).toNat + carry.toNat ↔ m.toNat + borrow carry ≤ a.toNat := by
  have := m.isLt
  rw [toNat_xor_255]
  cases carry <;> simp [borrow] <;> omega

/-- The sign law of V on that sum is the range of the signed difference. -/
theorem overflow_of_complement (a m : Byte) (carry : Bool) :
    (a.msb = (m ^^^ 0xFF#8).msb ∧ (BitVec.ofNat 8 (a.toNat + (m ^^^ 0xFF#8).toNat + carry.toNat)).msb ≠ a.msb) ↔
      (a.toInt - m.toInt - borrow carry < -128 ∨ 127 < a.toInt - m.toInt - borrow carry) := by
  have := a.isLt
  have := m.isLt
  simp only [BitVec.msb_eq_decide, BitVec.toInt_eq_toNat_cond, toNat_xor_255, BitVec.toNat_ofNat, ne_eq, decide_eq_decide]
  cases carry <;> simp only [borrow, Bool.toNat_true, Bool.toNat_false, if_true, Bool.false_eq_true, if_false] <;> omega

/-- The model's use of AddCore for the difference is the rule's subtraction on the CPU (R241). -/
theorem subCore_eq (m : Byte) (c : Cpu) :
    { c with a := (subCore c.a m c.p).1, p := (subCore c.a m c.p).2 } = subtract m c := by
  obtain ⟨hbyte, hflags⟩ := addCore_eq c.a (m ^^^ 0xFF#8) c.p
  rw [subCore, hbyte, hflags]
  simp only [overflow_of_complement, carry_of_complement]
  rw [sum_of_complement]
  rfl

theorem sbc_changesCpu : ChangesCpu (fun m t => t.setAFlags (subCore t.cpu.a m t.cpu.p)) subtract :=
  ⟨fun m t => by rw [← subCore_eq]; rfl, fun _ _ => rfl⟩

/-- Settles O15: each form runs SBC's operation, the sum with the complemented operand, and that is the difference with its
borrow and its signed range. -/
theorem subtractWithBorrow : Obligations.SubtractWithBorrow :=
  fun _ _ s f hf => (sbc_runs f hf).decodes_and_reads (fun _ _ _ => rfl) sbc_changesCpu s

/-! ## The bitwise instructions -/

theorem and_runs {b1 b2 : Byte} : ∀ f ∈ Rules.and b1 b2, f.Runs sourceLength sourceCrosses opAnd b1 b2 := by
  intro f hf
  fin_cases hf <;> exact .of rfl rfl rfl rfl fun _ => rfl

theorem ora_runs {b1 b2 : Byte} : ∀ f ∈ ora b1 b2, f.Runs sourceLength sourceCrosses opOra b1 b2 := by
  intro f hf
  fin_cases hf <;> exact .of rfl rfl rfl rfl fun _ => rfl

theorem eor_runs {b1 b2 : Byte} : ∀ f ∈ eor b1 b2, f.Runs sourceLength sourceCrosses opEor b1 b2 := by
  intro f hf
  fin_cases hf <;> exact .of rfl rfl rfl rfl fun _ => rfl

/-- A byte made of A and the operand goes to A, with its N and Z. -/
theorem bitwise_changesCpu (h : Byte → Byte → Byte) :
    ChangesCpu (fun m t => t.setAFlags (h t.cpu.a m, setNZ (h t.cpu.a m) t.cpu.p))
      fun m c => { c with a := h c.a m, p := nz (h c.a m) c.p } :=
  ⟨fun m t => by rw [setNZ_eq_nz]; rfl, fun _ _ => rfl⟩

/-- Settles O16: each form runs its mnemonic's operation, which puts the bitwise result in A with its N and Z. -/
theorem logicInstructions : Obligations.LogicInstructions := by
  intro b1 b2 s
  refine ⟨fun f hf => ?and, fun f hf => ?ora, fun f hf => ?eor⟩
  case and => exact (and_runs f hf).decodes_and_reads (fun _ _ _ => rfl) (bitwise_changesCpu (· &&& ·)) s
  case ora => exact (ora_runs f hf).decodes_and_reads (fun _ _ _ => rfl) (bitwise_changesCpu (· ||| ·)) s
  case eor => exact (eor_runs f hf).decodes_and_reads (fun _ _ _ => rfl) (bitwise_changesCpu (· ^^^ ·)) s

/-! ## Comparisons and the bit test -/

theorem cmp_runs {b1 b2 : Byte} : ∀ f ∈ Rules.cmp b1 b2, f.Runs sourceLength sourceCrosses opCmp b1 b2 := by
  intro f hf
  fin_cases hf <;> exact .of rfl rfl rfl rfl fun _ => rfl

theorem cpx_runs {b1 b2 : Byte} : ∀ f ∈ cpx b1 b2, f.Runs sourceLength sourceCrosses opCpx b1 b2 := by
  intro f hf
  fin_cases hf <;> exact .of rfl rfl rfl rfl fun _ => rfl

theorem cpy_runs {b1 b2 : Byte} : ∀ f ∈ cpy b1 b2, f.Runs sourceLength sourceCrosses opCpy b1 b2 := by
  intro f hf
  fin_cases hf <;> exact .of rfl rfl rfl rfl fun _ => rfl

theorem bit_runs {b1 b2 : Byte} : ∀ f ∈ bit b1 b2, f.Runs sourceLength sourceCrosses opBit b1 b2 := by
  intro f hf
  fin_cases hf <;> exact .of rfl rfl rfl rfl fun _ => rfl

theorem compareCore_eq_compare (r m : Byte) (p : Flags) : compareCore r m p = Rules.compare r m p := compareCore_eq r m p

/-- The comparison of a register, which `r` picks, writes flags only. -/
theorem compare_changesCpu (r : Cpu → Byte) :
    ChangesCpu (fun m t => t.setFlags (compareCore (r t.cpu) m t.cpu.p))
      fun m c => { c with p := Rules.compare (r c) m c.p } :=
  ⟨fun m t => by rw [compareCore_eq_compare]; rfl, fun _ _ => rfl⟩

/-- Settles O17: each form runs its mnemonic's operation, the comparison of its register with the operand. -/
theorem compareInstructions : Obligations.CompareInstructions := by
  intro b1 b2 s
  refine ⟨fun f hf => ?cmp, fun f hf => ?cpx, fun f hf => ?cpy⟩
  case cmp => exact (cmp_runs f hf).decodes_and_reads (fun _ _ _ => rfl) (compare_changesCpu Cpu.a) s
  case cpx => exact (cpx_runs f hf).decodes_and_reads (fun _ _ _ => rfl) (compare_changesCpu Cpu.x) s
  case cpy => exact (cpy_runs f hf).decodes_and_reads (fun _ _ _ => rfl) (compare_changesCpu Cpu.y) s

theorem bit_changesCpu : ChangesCpu (fun m t => t.setFlags (bitCore t.cpu.a m t.cpu.p)) fun m c =>
    { c with p := { c.p with z := decide (c.a &&& m = 0#8), n := decide (128 ≤ m.toNat),
                             v := decide (m.toNat / 64 % 2 = 1) } } :=
  ⟨fun m t => by rw [bitCore_eq]; rfl, fun _ _ => rfl⟩

/-- Settles O18: each form runs BIT's operation, which sets Z from A and the operand and N and V from the operand. -/
theorem bitTest : Obligations.BitTest :=
  fun _ _ s f hf => (bit_runs f hf).decodes_and_reads (fun _ _ _ => rfl) bit_changesCpu s

/-! ## Increment and decrement -/

theorem inc_runs {b1 b2 : Byte} : ∀ f ∈ inc b1 b2, f.Runs memLength memCrosses opInc b1 b2 := by
  intro f hf
  fin_cases hf <;> exact .of rfl rfl rfl rfl fun _ => rfl

theorem dec_runs {b1 b2 : Byte} : ∀ f ∈ dec b1 b2, f.Runs memLength memCrosses opDec b1 b2 := by
  intro f hf
  fin_cases hf <;> exact .of rfl rfl rfl rfl fun _ => rfl

theorem incCore_eq (v : Byte) (p : Flags) : incCore v p = (v + 1#8, nz (v + 1#8) p) := by rw [incCore, setNZ_eq_nz]

theorem decCore_eq (v : Byte) (p : Flags) : decCore v p = (v - 1#8, nz (v - 1#8) p) := by rw [decCore, setNZ_eq_nz]

theorem inc_modifiesCpu (c : Cpu) :
    ModifiesCpu incCore (fun _ t => t) c (fun m => m + 1#8) fun m c => { c with p := nz (m + 1#8) c.p } :=
  ⟨fun _ => rfl, fun m t h => by rw [incCore_eq, ← h]; rfl, fun _ => rfl⟩

theorem dec_modifiesCpu (c : Cpu) :
    ModifiesCpu decCore (fun _ t => t) c (fun m => m - 1#8) fun m c => { c with p := nz (m - 1#8) c.p } :=
  ⟨fun _ => rfl, fun m t h => by rw [decCore_eq, ← h]; rfl, fun _ => rfl⟩

/-- Settles O19: in memory one read and one write of the byte plus or minus 1; in X and Y the register alone. -/
theorem incrementDecrement : Obligations.IncrementDecrement := by
  intro b1 b2 s c
  refine ⟨fun f hf => ?inc, fun f hf => ?dec, rfl, ?inx, rfl, ?iny, rfl, ?dex, rfl, ?dey⟩
  case inc => exact (inc_runs f hf).decodes_and_modifies (fun _ _ => rfl) (inc_modifiesCpu c)
  case dec => exact (dec_runs f hf).decodes_and_modifies (fun _ _ => rfl) (dec_modifiesCpu c)
  case inx => exact exec_eq_ends (op := 0xE8#8) (by rw [← setNZ_eq_nz]; rfl) rfl rfl rfl
  case iny => exact exec_eq_ends (op := 0xC8#8) (by rw [← setNZ_eq_nz]; rfl) rfl rfl rfl
  case dex => exact exec_eq_ends (op := 0xCA#8) (by rw [← setNZ_eq_nz]; rfl) rfl rfl rfl
  case dey => exact exec_eq_ends (op := 0x88#8) (by rw [← setNZ_eq_nz]; rfl) rfl rfl rfl

end Sys2Proof.Rules
end

section
/-! PROOFS. Shifts and rotates (spec/43_shift_rotate.md R280 to R283). The byte and the flags that each core computes are those
of `Sys2Proof.Rules`, and A and the memory forms run that core. -/

namespace Sys2Proof.Rules

open Sys2Proof.Machine

/-! ## The byte: the bit that enters takes the place the shift left free, so that `|||` is a sum -/

theorem shiftLeft_or_eq_leftByte (v : Byte) (inBit : Bool) :
    v <<< 1 ||| (BitVec.ofBool inBit).setWidth 8 = leftByte v inBit := by
  have hdisjoint : v <<< 1 &&& (BitVec.ofBool inBit).setWidth 8 = 0#8 := by
    ext i
    cases i <;> simp
  rw [← BitVec.add_eq_or_of_and_eq_zero _ _ hdisjoint]
  apply BitVec.eq_of_toNat_eq
  cases inBit <;> simp [leftByte] <;> omega

theorem ushiftRight_or_eq_rightByte (v : Byte) (inBit : Bool) :
    v >>> 1 ||| (BitVec.ofBool inBit).setWidth 8 <<< 7 = rightByte v inBit := by
  have hdisjoint : v >>> 1 &&& (BitVec.ofBool inBit).setWidth 8 <<< 7 = 0#8 := by
    ext i hi
    obtain hlow | rfl : i < 7 ∨ i = 7 := by omega
    · simp [hlow]
    · simp
  rw [← BitVec.add_eq_or_of_and_eq_zero _ _ hdisjoint]
  apply BitVec.eq_of_toNat_eq
  cases inBit <;> simp [rightByte] <;> omega

/-! ## The cores -/

/-- ASL's byte and flags: a 0 enters at bit 0 (R280). -/
theorem aslCore_eq (v : Byte) (p : Flags) : aslCore v p = (leftByte v false, leftFlags v (leftByte v false) p) := by
  have hbyte : v <<< 1 = leftByte v false := by simpa using shiftLeft_or_eq_leftByte v false
  rw [aslCore, hbyte, bit7_eq, setNZ_eq_nz]
  rfl

/-- LSR's byte and flags: a 0 enters at bit 7 (R281). -/
theorem lsrCore_eq (v : Byte) (p : Flags) : lsrCore v p = (rightByte v false, rightFlags v (rightByte v false) p) := by
  have hbyte : v >>> 1 = rightByte v false := by simpa using ushiftRight_or_eq_rightByte v false
  rw [lsrCore, hbyte, bit0_eq, setNZ_eq_nz]
  rfl

/-- ROL's byte and flags: the old C enters at bit 0 (R282). -/
theorem rolCore_eq (v : Byte) (p : Flags) : rolCore v p = (leftByte v p.c, leftFlags v (leftByte v p.c) p) := by
  rw [rolCore, shiftLeft_or_eq_leftByte, bit7_eq, setNZ_eq_nz]
  rfl

/-- ROR's byte and flags: the old C enters at bit 7 (R283). -/
theorem rorCore_eq (v : Byte) (p : Flags) : rorCore v p = (rightByte v p.c, rightFlags v (rightByte v p.c) p) := by
  rw [rorCore, ushiftRight_or_eq_rightByte, bit0_eq, setNZ_eq_nz]
  rfl

/-! ## The memory forms -/

theorem asl_runs {b1 b2 : Byte} : ∀ f ∈ asl b1 b2, f.Runs memLength memCrosses opAsl b1 b2 := by
  intro f hf
  fin_cases hf <;> exact .of rfl rfl rfl rfl fun _ => rfl

theorem lsr_runs {b1 b2 : Byte} : ∀ f ∈ lsr b1 b2, f.Runs memLength memCrosses opLsr b1 b2 := by
  intro f hf
  fin_cases hf <;> exact .of rfl rfl rfl rfl fun _ => rfl

theorem rol_runs {b1 b2 : Byte} : ∀ f ∈ rol b1 b2, f.Runs memLength memCrosses opRol b1 b2 := by
  intro f hf
  fin_cases hf <;> exact .of rfl rfl rfl rfl fun _ => rfl

theorem ror_runs {b1 b2 : Byte} : ∀ f ∈ ror b1 b2, f.Runs memLength memCrosses opRor b1 b2 := by
  intro f hf
  fin_cases hf <;> exact .of rfl rfl rfl rfl fun _ => rfl

/-! ## In memory and in A -/

/-- In memory: a core that makes the byte `new` and the flags `flags` stores that byte and writes nothing else but the flags. -/
theorem shift_modifiesCpu {core : Byte → Flags → Byte × Flags} {c : Cpu} {new : Byte → Byte}
    {flags : Byte → Byte → Flags → Flags} (h : ∀ m : Byte, core m c.p = (new m, flags m (new m) c.p)) :
    ModifiesCpu core (fun _ t => t) c new fun m c => { c with p := flags m (new m) c.p } :=
  ⟨fun m => by rw [h], fun m t ht => by rw [h, ← ht]; rfl, fun _ => rfl⟩

/-- In A: the core's byte goes to A and its flags to P, in 2 cycles (R154). -/
theorem exec_shiftA_eq_ends {i : Instr} {op : Byte} {core : Byte → Flags → Byte × Flags} {s : State} {r : Byte} {p : Flags}
    (hexec : exec i s = .next (shiftA op core s)) (hcore : core s.cpu.a s.cpu.p = (r, p))
    (hl : (entryOf op).length = 1) (hc : (entryOf op).cycles = 2) :
    exec i s = .next (ends s 1 2 { s.cpu with a := r, p := p } s) :=
  exec_eq_ends (op := op) (by rw [hexec, shiftA, hcore]; rfl) hl hc rfl

/-- Settles O20: each form runs its mnemonic's core, which shifts the byte one place, on A or on the byte in memory. -/
theorem shiftsAndRotates : Obligations.ShiftsAndRotates := by
  intro b1 b2 s c k
  refine ⟨rfl, ?aslA, rfl, ?lsrA, rfl, ?rolA, rfl, ?rorA,
    fun f hf => ?asl, fun f hf => ?lsr, fun f hf => ?rol, fun f hf => ?ror⟩
  case aslA => exact exec_shiftA_eq_ends (op := 0x0A#8) rfl (aslCore_eq _ _) rfl rfl
  case lsrA => exact exec_shiftA_eq_ends (op := 0x4A#8) rfl (lsrCore_eq _ _) rfl rfl
  case rolA => exact exec_shiftA_eq_ends (op := 0x2A#8) rfl (rolCore_eq _ _) rfl rfl
  case rorA => exact exec_shiftA_eq_ends (op := 0x6A#8) rfl (rorCore_eq _ _) rfl rfl
  case asl => exact (asl_runs f hf).decodes_and_modifies (fun _ _ => rfl) (shift_modifiesCpu (aslCore_eq · c.p))
  case lsr => exact (lsr_runs f hf).decodes_and_modifies (fun _ _ => rfl) (shift_modifiesCpu (lsrCore_eq · c.p))
  case rol => exact (rol_runs f hf).decodes_and_modifies (fun _ _ => rfl) (shift_modifiesCpu (rolCore_eq · c.p))
  case ror => exact (ror_runs f hf).decodes_and_modifies (fun _ _ => rfl) (shift_modifiesCpu (rorCore_eq · c.p))

end Sys2Proof.Rules
end

section
/-! PROOFS. Conditional branches (spec/44_control.md R294 to R302, and R710): the target, the page test and the cycles of the
rule that the eight branches share are those of the spec in integer terms. -/

namespace Sys2Proof.Rules

open Sys2Proof.Machine

/-- The address after a branch, which is two bytes long (R294). -/
theorem branchNext_eq (pc : Word) : pc + 2#16 = BitVec.ofNat 16 (pc.toNat + 2) := by
  rw [BitVec.ofNat_add, BitVec.ofNat_toNat, BitVec.setWidth_eq]

/-- The target of a branch: the offset is signed, and the sum wraps modulo 2^16 (R165, R294). -/
theorem branchTarget_eq (pc : Word) (r : Byte) :
    BitVec.ofNat 16 (pc.toNat + 2) + signExtend16 r = BitVec.ofInt 16 (pc.toNat + 2 + r.toInt) := by
  rw [BitVec.ofInt_add, signExtend16, BitVec.signExtend]
  exact congrArg (· + _) (BitVec.ofInt_natCast 16 (pc.toNat + 2)).symm

/-- A taken branch takes one cycle more than the 2 of the table, or two when the target is in another page than the next
instruction (R710). -/
theorem takenCycles_eq (next target : Word) :
    (2 + if pageCrossed next target then 2 else 1) = if next.toNat / 256 = target.toNat / 256 then 3 else 4 := by
  rw [pageCrossed_eq]
  by_cases h : next.toNat / 256 = target.toNat / 256 <;> simp [h]

/-- The branch rule writes PC and the cycle count, both by the condition, and nothing else (R294, R710). -/
theorem branch_eq {op : Byte} (hcycles : (entryOf op).cycles = 2) (taken : Bool) (r : Byte) (s : State) :
    let next : Word := BitVec.ofNat 16 (s.cpu.pc.toNat + 2)
    let target : Word := BitVec.ofInt 16 (s.cpu.pc.toNat + 2 + r.toInt)
    branch op taken r s = { s with
      cpu := { s.cpu with pc := if taken then target else next },
      stepCycles := if taken then (if next.toNat / 256 = target.toNat / 256 then 3 else 4) else 2 } := by
  intro next target
  simp only [branch, branchNext_eq, branchTarget_eq, hcycles, takenCycles_eq]
  cases taken with
  | true => rfl
  | false => rfl

/-- Settles O22: each branch decodes from its opcode and runs the shared rule on its own condition. -/
theorem branchInstructions : Obligations.BranchInstructions := by
  intro b1 b2 s next target f hf
  fin_cases hf <;> dsimp only <;> exact ⟨rfl, congrArg Host.Outcome.next (branch_eq rfl _ b1 s)⟩

end Sys2Proof.Rules
end

section
/-! PROOFS. Flag instructions (spec/45_flags_nop.md R320 to R326): they write P and then end as the instruction table says. -/

namespace Sys2Proof.Rules

open Sys2Proof.Machine

/-- An instruction that only writes the flags `p` ends with them in P, one byte on and in 2 cycles. -/
theorem exec_setFlags_eq_ends {i : Instr} {op : Byte} {s : State} {p : Flags}
    (hexec : exec i s = .next (complete op false (s.setFlags p))) (hl : (entryOf op).length = 1)
    (hc : (entryOf op).cycles = 2) : exec i s = .next (ends s 1 2 { s.cpu with p := p } s) :=
  exec_eq_ends (op := op) (by rw [hexec, State.setFlags]) hl hc rfl

/-- Settles O24: each instruction decodes from its opcode and sets P to the old flags with its one flag written. -/
theorem flagInstructions : Obligations.FlagInstructions := by
  intro b1 b2 s c
  refine ⟨rfl, ?clc, rfl, ?sec, rfl, ?cli, rfl, ?sei, rfl, ?clv, rfl, ?cld, rfl, ?sed⟩
  case clc => exact exec_setFlags_eq_ends (op := 0x18#8) rfl rfl rfl
  case sec => exact exec_setFlags_eq_ends (op := 0x38#8) rfl rfl rfl
  case cli => exact exec_setFlags_eq_ends (op := 0x58#8) rfl rfl rfl
  case sei => exact exec_setFlags_eq_ends (op := 0x78#8) rfl rfl rfl
  case clv => exact exec_setFlags_eq_ends (op := 0xB8#8) rfl rfl rfl
  case cld => exact exec_setFlags_eq_ends (op := 0xD8#8) rfl rfl rfl
  case sed => exact exec_setFlags_eq_ends (op := 0xF8#8) rfl rfl rfl

end Sys2Proof.Rules
end

section
/-! PROOFS. The unofficial read-modify-write instructions (spec/46_unofficial.md R342 to R347): each runs the core of an official
memory instruction and then the operation of an official read instruction on the new byte, so its proof joins what is said of
the two. -/

namespace Sys2Proof.Rules

open Sys2Proof.Machine

/-- A core that makes the byte `new` and the flags `flags`, then an operation that changes the CPU by `use` of that byte: the
operation sees the flags that the core left. -/
theorem ChangesCpu.modifiesCpu {after : Byte → State → State} {use : Byte → Cpu → Cpu} (hafter : ChangesCpu after use)
    {core : Byte → Flags → Byte × Flags} {c : Cpu} {new : Byte → Byte} {flags : Byte → Flags}
    (hcore : ∀ m : Byte, core m c.p = (new m, flags m)) {g : Byte → Cpu → Cpu}
    (hg : ∀ m : Byte, use (new m) { c with p := flags m } = g m c) : ModifiesCpu core after c new g where
  byte m := by rw [hcore]
  eq m t ht := by rw [hcore, hafter.eq, ← hg, ← ht]; rfl
  pc m := by rw [← hg, hafter.pc]

/-! ## Decrement or increment, then compare or subtract -/

theorem dcp_runs {b1 b2 : Byte} : ∀ f ∈ dcp b1 b2, f.Runs memLength memCrosses opDcp b1 b2 := by
  intro f hf
  fin_cases hf <;> exact .of rfl rfl rfl rfl fun _ => rfl

theorem isb_runs {b1 b2 : Byte} : ∀ f ∈ isb b1 b2, f.Runs memLength memCrosses opIsb b1 b2 := by
  intro f hf
  fin_cases hf <;> exact .of rfl rfl rfl rfl fun _ => rfl

/-- The comparison writes C, Z and N, so the N and Z of the decrement are lost (R231, R342). -/
theorem compare_nz (r m v : Byte) (p : Flags) : Rules.compare r m (nz v p) = Rules.compare r m p := rfl

/-- The subtraction reads C alone of the flags and writes N and Z, so the N and Z of the increment are lost (R241, R343). -/
theorem subtract_nz (m v : Byte) (c : Cpu) : subtract m { c with p := nz v c.p } = subtract m c := rfl

/-- Settles O26: DCP is DEC's core and then CMP's operation, ISB is INC's core and then SBC's operation. -/
theorem decrementCompareIncrementSubtract : Obligations.DecrementCompareIncrementSubtract := by
  intro b1 b2 s
  refine ⟨fun f hf => ?dcp, fun f hf => ?isb⟩
  case dcp =>
    exact (dcp_runs f hf).decodes_and_modifies (fun _ _ => rfl)
      ((compare_changesCpu Cpu.a).modifiesCpu (decCore_eq · s.cpu.p) fun _ => by rw [compare_nz])
  case isb =>
    exact (isb_runs f hf).decodes_and_modifies (fun _ _ => rfl)
      (sbc_changesCpu.modifiesCpu (incCore_eq · s.cpu.p) fun _ => subtract_nz _ _ _)

/-! ## Shift or rotate, then combine with A -/

theorem slo_runs {b1 b2 : Byte} : ∀ f ∈ slo b1 b2, f.Runs memLength memCrosses opSlo b1 b2 := by
  intro f hf
  fin_cases hf <;> exact .of rfl rfl rfl rfl fun _ => rfl

theorem rla_runs {b1 b2 : Byte} : ∀ f ∈ rla b1 b2, f.Runs memLength memCrosses opRla b1 b2 := by
  intro f hf
  fin_cases hf <;> exact .of rfl rfl rfl rfl fun _ => rfl

theorem sre_runs {b1 b2 : Byte} : ∀ f ∈ sre b1 b2, f.Runs memLength memCrosses opSre b1 b2 := by
  intro f hf
  fin_cases hf <;> exact .of rfl rfl rfl rfl fun _ => rfl

theorem rra_runs {b1 b2 : Byte} : ∀ f ∈ rra b1 b2, f.Runs memLength memCrosses opRra b1 b2 := by
  intro f hf
  fin_cases hf <;> exact .of rfl rfl rfl rfl fun _ => rfl

/-- N and Z are those of the last result, C stays the bit shifted out (R344, R345). -/
theorem nz_leftFlags (v r a : Byte) (p : Flags) : nz a (leftFlags v r p) = leftFlags v a p := rfl

/-- N and Z are those of the last result, C stays the bit shifted out (R346). -/
theorem nz_rightFlags (v r a : Byte) (p : Flags) : nz a (rightFlags v r p) = rightFlags v a p := rfl

/-- AddCore reads C alone of the flags the rotate left, its carry out, and writes N and Z (R230, R347). -/
theorem addCore_rightFlags (m v r : Byte) (c : Cpu) :
    addCore m { c with p := rightFlags v r c.p } = addCore m { c with p := { c.p with c := decide (v.toNat % 2 = 1) } } := rfl

/-- Settles O27: SLO, RLA and SRE are a shift's core and then ORA's, AND's and EOR's operation; RRA is ROR's core and then
ADC's operation, which takes in the C that the core left. -/
theorem shiftAndCombine : Obligations.ShiftAndCombine := by
  intro b1 b2 s k
  refine ⟨fun f hf => ?slo, fun f hf => ?rla, fun f hf => ?sre, fun f hf => ?rra⟩
  case slo =>
    exact (slo_runs f hf).decodes_and_modifies (fun _ _ => rfl)
      ((bitwise_changesCpu (· ||| ·)).modifiesCpu (aslCore_eq · s.cpu.p) fun _ => by rw [nz_leftFlags])
  case rla =>
    exact (rla_runs f hf).decodes_and_modifies (fun _ _ => rfl)
      ((bitwise_changesCpu (· &&& ·)).modifiesCpu (rolCore_eq · s.cpu.p) fun _ => by rw [nz_leftFlags])
  case sre =>
    exact (sre_runs f hf).decodes_and_modifies (fun _ _ => rfl)
      ((bitwise_changesCpu (· ^^^ ·)).modifiesCpu (lsrCore_eq · s.cpu.p) fun _ => by rw [nz_rightFlags])
  case rra =>
    exact (rra_runs f hf).decodes_and_modifies (fun _ _ => rfl)
      (adc_changesCpu.modifiesCpu (rorCore_eq · s.cpu.p) fun _ => addCore_rightFlags _ _ _ _)

end Sys2Proof.Rules
end

section
/-! PROOFS. The steps that reach no instruction and no interrupt (spec/60_exceptions.md R601, R606): paused, and consuming a
DMA stall. -/

namespace Sys2Proof.Rules

open Sys2Proof.Machine

/-- A stall step takes no NMI, so its countdown runs exactly when one is pending (R610). -/
theorem finishStall_consumeStall_beginStep (s : State) :
    finishStall (consumeStall (beginStep s)) = { s with
      stallCycles := 0, stepCycles := s.stallCycles, trace := [], cycleTotal := s.cycleTotal + s.stallCycles,
      nmiDelay := if s.nmiPending then s.nmiDelay - s.stallCycles else s.nmiDelay } := by
  simp only [finishStall, account, consumeStall, beginStep, Bool.not_false, Bool.and_true]

/-- Settles O39: a paused step is `pausedStep`, and with no interrupt due a positive stall is consumed and counted. -/
theorem pausedAndStallSteps : Obligations.PausedAndStallSteps := by
  intro s
  refine ⟨fun hp => ?paused, fun hp hnmi hirq hstall => ?stall⟩
  case paused => exact step_of_paused hp
  case stall => rw [step_of_stall hp hnmi hirq hstall, finishStall_consumeStall_beginStep]

end Sys2Proof.Rules
end

section
/-! PROOFS. Decoding and encoding (spec/30_encoding.md R150 to R152, R167 to R172): the decoder and the encoder are both read off
the entry of the instruction's opcode, so the form of that entry decides each direction. -/

namespace Sys2Proof.Rules

open Sys2Proof.Machine

/-! ## The padding byte -/

/-- BRK's entry alone skips a byte (R150, R303). -/
theorem padding_eq : ∀ op : Byte, (entryOf op).padding = if op = 0x00#8 then 1 else 0 := by decide

theorem padding_of_operandBytes : ∀ op : Byte, (entryOf op).operandBytes ≠ 0 → (entryOf op).padding = 0 := by decide

/-! ## The decoder and the encoder, by the form of the opcode's entry -/

section
variable {op : Byte}

theorem decode_bare {i : Instr} (h : (entryOf op).form = .bare i) (rest : List Byte) :
    decode (op :: rest) = .ok i (rest.drop (entryOf op).padding) := by simp only [decode, h]

theorem decode_byte {f : Byte → Instr} (h : (entryOf op).form = .byte f) (b : Byte) (rest : List Byte) :
    decode (op :: b :: rest) = .ok (f b) rest := by simp only [decode, h]

theorem decode_word {f : Word → Instr} (h : (entryOf op).form = .word f) (b1 b2 : Byte) (rest : List Byte) :
    decode (op :: b1 :: b2 :: rest) = .ok (f (joinBytes b2 b1)) rest := by simp only [decode, h]

theorem encode_bare {i : Instr} (h : (entryOf op).form = .bare i) :
    i.opcode = op ∧ encode i = op :: List.replicate (entryOf op).padding 0#8 := by
  obtain ⟨j, hop, hgives⟩ := gives_of_opcode op
  rw [h] at hgives
  obtain ⟨rfl, hbytes⟩ := hgives
  exact ⟨hop, by rw [encode, hbytes, hop]; rfl⟩

theorem encode_byte {f : Byte → Instr} (h : (entryOf op).form = .byte f) (b : Byte) :
    (f b).opcode = op ∧ encode (f b) = [op, b] := by
  obtain ⟨j, -, hgives⟩ := gives_of_opcode op
  rw [h] at hgives
  obtain ⟨hop, hbytes⟩ := hgives.2 b
  exact ⟨hop, by rw [encode, hbytes, hop, padding_of_operandBytes op (by simp [Entry.operandBytes, h])]; rfl⟩

theorem encode_word {f : Word → Instr} (h : (entryOf op).form = .word f) (w : Word) :
    (f w).opcode = op ∧ encode (f w) = [op, loByte w, hiByte w] := by
  obtain ⟨j, -, hgives⟩ := gives_of_opcode op
  rw [h] at hgives
  obtain ⟨hop, hbytes⟩ := hgives.2 w
  exact ⟨hop, by rw [encode, hbytes, hop, padding_of_operandBytes op (by simp [Entry.operandBytes, h])]; rfl⟩

end

/-! ## Both directions -/

/-- Settles O2: the encoder writes the operand bytes of the entry's form, and as many padding bytes as the decoder skips. -/
theorem decodeOfEncode : Obligations.DecodeOfEncode := by
  intro i rest
  obtain ⟨-, hgives, -⟩ := table_statement i
  cases hform : (entryOf i.opcode).form with
  | bare j =>
    rw [hform] at hgives
    obtain ⟨rfl, -⟩ := hgives
    rw [(encode_bare hform).2, List.cons_append, decode_bare hform]
    simp
  | byte f =>
    rw [hform] at hgives
    obtain ⟨⟨b, hi⟩, -⟩ := hgives
    rw [← hi, (encode_byte hform b).2]
    exact decode_byte hform b rest
  | word f =>
    rw [hform] at hgives
    obtain ⟨⟨w, hi⟩, -⟩ := hgives
    rw [← hi, (encode_word hform w).2]
    exact (decode_word hform _ _ rest).trans (by rw [joinBytes_bytes])

/-- The bytes that a decoding used. -/
theorem bytes_of_decode {bytes : List Byte} {i : Instr} {rest : List Byte} (h : decode bytes = .ok i rest) :
    bytes = encode i ++ rest ∨ (i = .brk ∧ ∃ pad : List Byte, pad.length ≤ 1 ∧ bytes = 0x00#8 :: (pad ++ rest)) := by
  cases bytes with
  | nil => cases h
  | cons op tail =>
    cases hform : (entryOf op).form with
    | bare j =>
      rw [decode_bare hform] at h
      cases h
      by_cases hop : op = 0x00#8
      · subst hop
        cases hform
        exact .inr ⟨rfl, tail.take 1, by simp, congrArg _ (List.take_append_drop 1 tail).symm⟩
      · left
        rw [(encode_bare hform).2, padding_eq, if_neg hop]
        rfl
    | byte f =>
      match tail with
      | [] => simp only [decode, hform] at h; cases h
      | b :: tail =>
        rw [decode_byte hform] at h
        cases h
        exact .inl (by rw [(encode_byte hform b).2]; rfl)
    | word f =>
      match tail with
      | [] => simp only [decode, hform] at h; cases h
      | [_] => simp only [decode, hform] at h; cases h
      | b1 :: b2 :: tail =>
        rw [decode_word hform] at h
        cases h
        exact .inl (by rw [(encode_word hform _).2, loByte_joinBytes, hiByte_joinBytes]; rfl)

/-- With two bytes after the opcode decoding answers what `decodeOpcode` gives. -/
theorem decode_of_three_bytes (op b1 b2 : Byte) (rest : List Byte) :
    ∃ rest' : List Byte, decode (op :: b1 :: b2 :: rest) = .ok (decodeOpcode op b1 b2) rest' := by
  unfold decodeOpcode
  cases hform : (entryOf op).form with
  | bare i => exact ⟨_, decode_bare hform _⟩
  | byte f => exact ⟨_, decode_byte hform b1 _⟩
  | word f => exact ⟨_, decode_word hform b1 b2 rest⟩

/-- Settles O3: the form of the first byte's entry says which bytes a decoding used and that two more are enough. -/
theorem encodeOfDecode : Obligations.EncodeOfDecode := by
  refine ⟨fun bytes i rest h => bytes_of_decode h, fun op b1 b2 rest => ?_⟩
  obtain ⟨rest', h⟩ := decode_of_three_bytes op b1 b2 rest
  exact ⟨_, rest', h, decodeOpcode_opcode op b1 b2, rfl⟩

/-! ## The instruction table -/

/-- Settles O1: each word, decoded from the table. -/
theorem wordsOfTheSpecDecode : Obligations.WordsOfTheSpecDecode :=
  ⟨rfl, rfl, rfl, rfl, rfl, rfl, rfl, rfl, rfl, rfl, rfl⟩

/-- Settles O4: the instruction an opcode decodes to has that opcode, and its well-formedness is what the table says; the
markers are counted. -/
theorem unknownMarkers : Obligations.UnknownMarkers := by
  refine ⟨fun op b1 b2 extra => ?marker, by decide, by decide⟩
  case marker =>
    have h := isMarker_eq_not_wellFormed (decodeOpcode op b1 b2) extra
    rwa [decodeOpcode_opcode] at h

/-- Settles O5: the 256 entries of the table are checked one by one. -/
theorem lengthsAndBaseCycles : Obligations.LengthsAndBaseCycles := by
  unfold Obligations.LengthsAndBaseCycles
  decide

end Sys2Proof.Rules
end

section
/-! PROOFS. Effective addresses and the fetch (spec/30_encoding.md R156 to R166, spec/20_memory.md R110, spec/60_exceptions.md
R607, R608): the address computations in integers, and the reads a fetch makes. -/

namespace Sys2Proof.Rules

open Sys2Proof.Machine

/-! ## Direct modes -/

theorem indexed_eq (base : Word) (index : Byte) (s : State) : indexed base index s =
    ⟨BitVec.ofNat 16 (base.toNat + index.toNat), decide (256 ≤ base.toNat % 256 + index.toNat), s⟩ := by
  rw [indexed, pageCrossed_indexed, add_zeroExtend16]

/-- Settles O6: the zero-page sums wrap in page 0, and an indexed address crosses a page when its low byte carries. -/
theorem directAddresses : Obligations.DirectAddresses := by
  intro z w s
  simp only [effectiveAddress, zeroExtend16_eq, BitVec.toNat_add, indexed_eq]
  exact ⟨trivial, trivial, trivial, trivial, trivial, trivial⟩

/-! ## Pointer modes -/

theorem cpuReadZeroPageWord_eq (p : Byte) (s : State) :
    let lo := fetched (BitVec.ofNat 16 p.toNat) s
    let hi := fetched (BitVec.ofNat 16 ((p.toNat + 1) % 256)) lo.2
    cpuReadZeroPageWord p s = (BitVec.ofNat 16 (256 * hi.1.toNat + lo.1.toNat), hi.2) := by
  simp only [cpuReadZeroPageWord, cpuRead_eq_fetched, zeroExtend16_eq, BitVec.toNat_add, joinBytes_eq]
  rfl

theorem cpuReadPageWrappedWord_eq (w : Word) (s : State) :
    let lo := fetched w s
    let hi := fetched (BitVec.ofNat 16 (w.toNat / 256 * 256 + (w.toNat + 1) % 256)) lo.2
    cpuReadPageWrappedWord w s = (BitVec.ofNat 16 (256 * hi.1.toNat + lo.1.toNat), hi.2) := by
  simp only [cpuReadPageWrappedWord, cpuRead_eq_fetched, samePage_eq, joinBytes_eq]

/-- Indexing a word made of two bytes carries out of its low byte (R161). -/
theorem indexed_ofBytes (hi lo index : Byte) (s : State) : indexed (BitVec.ofNat 16 (256 * hi.toNat + lo.toNat)) index s =
    ⟨BitVec.ofNat 16 (256 * hi.toNat + lo.toNat + index.toNat), decide (256 ≤ lo.toNat + index.toNat), s⟩ := by
  have hword : (BitVec.ofNat 16 (256 * hi.toNat + lo.toNat)).toNat = 256 * hi.toNat + lo.toNat := by
    rw [BitVec.toNat_ofNat]
    omega
  have hlow : (256 * hi.toNat + lo.toNat) % 256 = lo.toNat := by omega
  rw [indexed_eq, hword, hlow]

theorem fetched_cpu (a : Word) (s : State) : (fetched a s).2.cpu = s.cpu := busRead_cpu a s

/-- Settles O7: each pointer mode makes its two reads, and its word is theirs, low byte first. -/
theorem pointerAddresses : Obligations.PointerAddresses := by
  intro z w s
  refine ⟨?izx, ?izy, ?jmpInd⟩
  case izx =>
    simp only [effectiveAddress, cpuReadZeroPageWord_eq, BitVec.toNat_add]
  case izy =>
    simp only [effectiveAddress, cpuReadZeroPageWord_eq, indexed_ofBytes, fetched_cpu]
  case jmpInd =>
    simp only [exec, execJmpInd, cpuReadPageWrappedWord_eq, completeAt_eq, State.setPc, State.setCycles, fetched_cpu]
    rfl

/-! ## The fetch -/

section
variable {s : State}

theorem fetchInstr_of_marker (h : (entryOf (fetched s.cpu.pc s).1).isMarker s.params.extraUnofficial = true) :
    fetchInstr s = (decodeOpcode (fetched s.cpu.pc s).1 0#8 0#8, (fetched s.cpu.pc s).2) := by
  simp only [fetchInstr, cpuRead_eq_fetched, h, if_true]

section
variable (hm : (entryOf (fetched s.cpu.pc s).1).isMarker s.params.extraUnofficial = false)
include hm

theorem fetchInstr_of_bare {i : Instr} (h : (entryOf (fetched s.cpu.pc s).1).form = .bare i) :
    fetchInstr s = (i, (fetched s.cpu.pc s).2) := by
  simp only [fetchInstr, cpuRead_eq_fetched, hm, h, Bool.false_eq_true, if_false]

theorem fetchInstr_of_byte {f : Byte → Instr} (h : (entryOf (fetched s.cpu.pc s).1).form = .byte f) :
    let b1 := fetched (s.cpu.pc + 1#16) (fetched s.cpu.pc s).2
    fetchInstr s = (f b1.1, b1.2) := by
  simp only [fetchInstr, cpuRead_eq_fetched, hm, h, Bool.false_eq_true, if_false]

theorem fetchInstr_of_word {f : Word → Instr} (h : (entryOf (fetched s.cpu.pc s).1).form = .word f) :
    let b1 := fetched (s.cpu.pc + 1#16) (fetched s.cpu.pc s).2
    let b2 := fetched (s.cpu.pc + 2#16) b1.2
    fetchInstr s = (f (joinBytes b2.1 b1.1), b2.2) := by
  simp only [fetchInstr, cpuRead_eq_fetched, hm, h, Bool.false_eq_true, if_false]

end

end

/-- Settles O8: an unknown marker has only its opcode fetched; else the form of the entry says how many bytes follow. -/
theorem fetchReadsExactly : Obligations.FetchReadsExactly := by
  intro s op b1 b2 n
  have hopcode : (fetchInstr s).1.opcode = op.1 := fetchInstr_opcode s
  cases hm : (entryOf op.1).isMarker s.params.extraUnofficial with
  | true =>
    have hn : n = 0 := if_pos hm
    have hstate : (fetchInstr s).2 = op.2 := by rw [fetchInstr_of_marker hm]
    exact ⟨fun _ => ⟨hstate, hopcode⟩, by omega, by omega, by omega⟩
  | false =>
    have hn : n = (entryOf op.1).operandBytes := if_neg (by rw [hm]; decide)
    cases hform : (entryOf op.1).form with
    | bare i =>
      have hn : n = 0 := by rw [hn, Entry.operandBytes, hform]
      have hfetch := fetchInstr_of_bare hm hform
      exact ⟨fun _ => ⟨by rw [hfetch], hopcode⟩, by omega, by omega, by omega⟩
    | byte f =>
      have hn : n = 1 := by rw [hn, Entry.operandBytes, hform]
      have hfetch : fetchInstr s = (f b1.1, b1.2) := fetchInstr_of_byte hm hform
      exact ⟨by omega, fun _ => ⟨by rw [hfetch], fun x => by rw [hfetch, decodeOpcode, hform]⟩, by omega, by omega⟩
    | word f =>
      have hn : n = 2 := by rw [hn, Entry.operandBytes, hform]
      have hfetch : fetchInstr s = (f (joinBytes b2.1 b1.1), b2.2) := fetchInstr_of_word hm hform
      exact ⟨by omega, by omega, fun _ => ⟨by rw [hfetch], by rw [hfetch, decodeOpcode, hform]⟩, by omega⟩

end Sys2Proof.Rules
end

section
/-! PROOFS. The status byte, the stack and the instructions on it, jumps, returns and exceptions (spec/10_state.md R44 to R50,
spec/41_transfer_stack.md R226 to R229, spec/44_control.md R290 to R293 and R303): the model's operations are those of
`Sys2Proof.Rules`. -/

namespace Sys2Proof.Rules

open Sys2Proof.Machine

/-! ## The status byte -/

theorem pack_eq_statusByte (b : Bool) (p : Flags) : pack b p = statusByte b p := by
  have h : ∀ c z i d v n b : Bool,
      pack b ⟨c, z, i, d, false, false, v, n⟩ = statusByte b ⟨c, z, i, d, false, false, v, n⟩ := by decide
  exact h p.c p.z p.i p.d p.v p.n b

theorem unpack_eq_statusFlags : ∀ v : Byte, unpack v = statusFlags v := by decide

theorem unpack_packStored (p : Flags) : unpack (packStored p) = p := by
  have h : ∀ c z i d b r v n : Bool, unpack (packStored ⟨c, z, i, d, b, r, v, n⟩) = ⟨c, z, i, d, b, r, v, n⟩ := by decide
  exact h p.c p.z p.i p.d p.b p.r p.v p.n

theorem packStored_unpack : ∀ v : Byte, packStored (unpack v) = v := by decide

/-- Settles O58: the byte at a push, at a pull and at a host read, over all flag cells and all bytes. -/
theorem statusByteBoundaries : Obligations.StatusByteBoundaries :=
  fun p b v => ⟨pack_eq_statusByte b p, unpack_eq_statusFlags v, unpack_pack b p, unpack_packStored p, packStored_unpack v⟩

/-! ## Pushes and pulls -/

theorem loByte_eq (w : Word) : loByte w = BitVec.ofNat 8 w.toNat := by
  apply BitVec.eq_of_toNat_eq
  simp [loByte]

theorem hiByte_eq (w : Word) : hiByte w = BitVec.ofNat 8 (w.toNat / 256) := by
  apply BitVec.eq_of_toNat_eq
  simp [hiByte, Nat.shiftRight_eq_div_pow]

theorem stackAddress_eq_page1 (sp : Byte) : stackAddress sp = page1 sp := stackAddress_eq sp

theorem push_eq_pushed (v : Byte) (s : State) : push v s = pushed v s := by
  rw [push, State.setSp, cpuWrite_cpu, cpuWrite_eq_written, stackAddress_eq_page1]
  rfl

theorem push16_eq_pushed (w : Word) (s : State) :
    push16 w s = pushed (BitVec.ofNat 8 w.toNat) (pushed (BitVec.ofNat 8 (w.toNat / 256)) s) := by
  rw [push16, push_eq_pushed, push_eq_pushed, loByte_eq, hiByte_eq]

theorem pull_eq_pulled (s : State) : pull s = pulled s := by
  simp only [pull, cpuRead_eq_fetched, stackAddress_eq_page1]
  rfl

theorem pull16_eq_pulled (s : State) :
    pull16 s = (BitVec.ofNat 16 (256 * (pulled (pulled s).2).1.toNat + (pulled s).1.toNat), (pulled (pulled s).2).2) := by
  simp only [pull16, pull_eq_pulled, joinBytes_eq]

@[simp] theorem pushed_cpu (v : Byte) (s : State) : (pushed v s).cpu = { s.cpu with sp := s.cpu.sp - 1#8 } := rfl

@[simp] theorem pulled_cpu (s : State) : (pulled s).2.cpu = { s.cpu with sp := s.cpu.sp + 1#8 } := fetched_cpu _ _

/-- Settles O13: a push or a pull, and then the end of the instruction table's entry. -/
theorem stackInstructions : Obligations.StackInstructions := by
  intro b1 b2 s
  refine ⟨rfl, ?pha, rfl, ?php, rfl, ?pla, rfl, ?plp⟩
  case pha => exact exec_eq_ends (op := 0x48#8) (by simp only [exec, execPha, push_eq_pushed]; rfl) rfl rfl rfl
  case php => exact exec_eq_ends (op := 0x08#8) (by simp only [exec, execPhp, push_eq_pushed, pack_eq_statusByte]; rfl) rfl rfl rfl
  case pla =>
    refine exec_eq_ends (op := 0x68#8) ?_ rfl rfl rfl
    simp only [exec, execPla, pull_eq_pulled, State.setAFlags, State.setA, State.setFlags, pulled_cpu, setNZ_eq_nz]
  case plp =>
    refine exec_eq_ends (op := 0x28#8) ?_ rfl rfl rfl
    simp only [exec, execPlp, pull_eq_pulled, State.setFlags, pulled_cpu, unpack_eq_statusFlags]

/-! ## Jumps and returns -/

/-- A read does not look at the CPU's registers. -/
theorem fetched_withCpu (a : Word) (c : Cpu) (s : State) :
    fetched a { s with cpu := c } = ((fetched a s).1, { (fetched a s).2 with cpu := c }) := by
  simp only [fetched, busRead_withCpu]

/-- A pull looks at S alone. -/
theorem pulled_setFlags (p : Flags) (s : State) :
    pulled (s.setFlags p) = ((pulled s).1, (pulled s).2.setFlags p) := by
  simp only [pulled, State.setFlags, fetched_withCpu]

theorem returnFromException_eq (s : State) :
    let p := pulled s
    let lo := pulled p.2
    let hi := pulled lo.2
    returnFromException s = { hi.2 with
      cpu := { s.cpu with sp := s.cpu.sp + 3#8, p := statusFlags p.1,
                          pc := BitVec.ofNat 16 (256 * hi.1.toNat + lo.1.toNat) } } := by
  simp only [returnFromException, pull_eq_pulled, pull16_eq_pulled, pulled_setFlags, unpack_eq_statusFlags]
  simp only [State.setPc, State.setFlags, pulled_cpu, BitVec.add_assoc]
  rfl

/-- Settles O21: the pushes and pulls in order, and PC. -/
theorem jumpsAndReturns : Obligations.JumpsAndReturns := by
  intro b1 b2 s w ret
  refine ⟨rfl, rfl, rfl, ?jsr, rfl, ?rts, rfl, ?rti⟩
  case jsr =>
    simp only [exec, execJsr, push16_eq_pushed, completeAt_eq, State.setPc, State.setCycles, pushed_cpu, BitVec.sub_sub]
    rfl
  case rts =>
    simp only [exec, execRts, pull16_eq_pulled, completeAt_eq, State.setPc, State.setCycles, pulled_cpu, BitVec.add_assoc,
      BitVec.ofNat_add]
    rfl
  case rti =>
    simp only [exec, execRti, returnFromException_eq]
    rfl

/-! ## Exceptions -/

/-- Entering an exception in the terms of the rules: three pushes, then I, then the two reads of the vector (R303, R603). -/
theorem enterException_eq {vector next ret : Word} {b : Bool} {s t : State} {lo hi : Byte × State}
    (hnext : next = vector + 1#16)
    (ht : t = pushed (statusByte b s.cpu.p)
      (pushed (BitVec.ofNat 8 ret.toNat) (pushed (BitVec.ofNat 8 (ret.toNat / 256)) s)))
    (hlo : lo = fetched vector { t with cpu := { t.cpu with p := { s.cpu.p with i := true } } })
    (hhi : hi = fetched next lo.2) :
    enterException vector ret b s = { hi.2 with
      cpu := { s.cpu with sp := s.cpu.sp - 3#8, p := { s.cpu.p with i := true },
                          pc := BitVec.ofNat 16 (256 * hi.1.toNat + lo.1.toNat) } } := by
  subst hnext ht hlo hhi
  simp only [enterException, push16_eq_pushed, push_eq_pushed, pack_eq_statusByte, cpuReadWord, cpuRead_eq_fetched,
    joinBytes_eq, State.setPc, State.setFlags, fetched_cpu, pushed_cpu, BitVec.sub_sub]
  rfl

/-- The stack is in block 0 (R102, R111). -/
theorem blockOf_page1 (sp : Byte) : blockOf (page1 sp) = 0 := by
  apply Fin.ext
  simp only [blockOf, page1, BitVec.toNat_ofNat, Fin.val_zero]
  omega

/-- A push that does not reach the mapper leaves it, the request mask and the slots alone. -/
theorem pushed_mapperSame (v : Byte) (s : State) (h : ¬reachesMapper 0x0100#16 s) : MapperSame s (pushed v s) := by
  have hwrite := busWrite_mapperSame (page1 s.cpu.sp) v s (by simp only [blockOf_page1]; exact not_or.mp h)
  exact ⟨hwrite.mapper, hwrite.irqRequest, hwrite.readSlot, hwrite.writeSlot⟩

theorem reachesMapper_iff_of_same {s t : State} (h : MapperSame s t) (w : Word) : reachesMapper w t ↔ reachesMapper w s := by
  rw [reachesMapper, h.writeSlot]

theorem fetched_irqRequest (a : Word) (s : State) : (fetched a s).2.irqRequest = s.irqRequest := busRead_irqRequest a s

/-- Settles O23: BRK is the entry of an exception with B = 1, and its reads make no request. -/
theorem softwareInterrupt : Obligations.SoftwareInterrupt := by
  intro b1 b2 s ret t lo hi
  refine ⟨rfl, ?exec, ?irq⟩
  case exec =>
    have hexec : exec .brk s = .next ((enterException 0xFFFE#16 ret true s).setCycles 7) := rfl
    rw [hexec, enterException_eq (t := t) (lo := lo) (hi := hi) rfl rfl rfl rfl, State.setCycles]
  case irq =>
    intro hm
    have h1 := pushed_mapperSame (BitVec.ofNat 8 (ret.toNat / 256)) s hm
    have h2 := h1.trans (pushed_mapperSame (BitVec.ofNat 8 ret.toNat) _ (by rwa [reachesMapper_iff_of_same h1]))
    have h3 : MapperSame s t :=
      h2.trans (pushed_mapperSame (statusByte true s.cpu.p) _ (by rwa [reachesMapper_iff_of_same h2]))
    clear_value t
    exact (fetched_irqRequest _ _).trans ((fetched_irqRequest _ _).trans h3.irqRequest)

end Sys2Proof.Rules
end

section
/-! PROOFS. No-operations, the optional group and the unknown markers (spec/45_flags_nop.md R327, spec/46_unofficial.md R349 to
R357). -/

namespace Sys2Proof.Rules

open Sys2Proof.Machine

/-! ## No-operations -/

theorem nopRead_runs {b1 b2 : Byte} :
    ∀ f ∈ nopImm b1 b2 ++ nopMem b1 b2, f.Runs sourceLength sourceCrosses opNopRead b1 b2 := by
  intro f hf
  fin_cases hf <;> exact .of rfl rfl rfl rfl fun _ => rfl

theorem nop_changesCpu : ChangesCpu (fun _ t => t) fun _ c => c := ⟨fun _ _ => rfl, fun _ _ => rfl⟩

/-- Settles O25: the implied forms only end, the others run the operation that reads its operand and leaves the CPU alone. -/
theorem noOperations : Obligations.NoOperations := by
  intro b1 b2 s
  refine ⟨fun f hf => ?implied, fun f hf => ?reading⟩
  case implied => fin_cases hf <;> exact ⟨rfl, rfl⟩
  case reading => exact (nopRead_runs f hf).decodes_and_reads (fun _ _ _ => rfl) nop_changesCpu s

/-! ## The optional group -/

/-- An instruction of the optional group that only changes the CPU, when the group is enabled. -/
theorem exec_whenExtra_eq_ends {i : Instr} {op : Byte} {length cycles : Nat} {s : State} {c : Cpu} {f : State → State}
    (hextra : s.params.extraUnofficial = true) (hexec : exec i s = .next (whenExtra op f s))
    (hf : f s = complete op false { s with cpu := c }) (hl : (entryOf op).length = length)
    (hc : (entryOf op).cycles = cycles) (hpc : c.pc = s.cpu.pc) : exec i s = .next (ends s length cycles c s) :=
  exec_eq_ends (op := op) (by rw [hexec, whenExtra, if_pos hextra, hf]) hl hc hpc

/-- ANC's byte and flags: C is a copy of N (R352). -/
theorem ancCore_eq (a m : Byte) (p : Flags) :
    ancCore a m p = (a &&& m, { nz (a &&& m) p with c := decide (128 ≤ (a &&& m).toNat) }) := by
  rw [ancCore, bit7_eq, setNZ_eq_nz]
  rfl

/-- Whether bits 6 and 5 differ. -/
theorem bit6_xor_bit5_eq : ∀ v : Byte,
    (v.getLsbD 6 ^^ v.getLsbD 5) = decide (v.toNat / 64 % 2 ≠ v.toNat / 32 % 2) := by decide

/-- ARR's byte is ROR's; C is bit 6 of it, and V says whether bits 6 and 5 differ (R354). -/
theorem arrCore_eq (a m : Byte) (p : Flags) :
    let r := rightByte (a &&& m) p.c
    arrCore a m p = (r, { nz r p with c := decide (r.toNat / 64 % 2 = 1),
                                      v := decide (r.toNat / 64 % 2 ≠ r.toNat / 32 % 2) }) := by
  intro r
  rw [arrCore, ushiftRight_or_eq_rightByte, setNZ_eq_nz, bit6_xor_bit5_eq, bit6_eq]
  rfl

/-- SBX's byte and flags: a comparison without its V (R355). -/
theorem sbxCore_eq (t m : Byte) (p : Flags) :
    sbxCore t m p = (t - m, { nz (t - m) p with c := decide (m.toNat ≤ t.toNat) }) := by
  rw [sbxCore, setNZ_eq_nz]
  rfl

theorem las_runs {b1 b2 : Byte} :
    ∀ f ∈ las b1 b2, f.Runs sourceLength sourceCrosses (fun op o => whenExtra op (opLas op o)) b1 b2 := by
  intro f hf
  fin_cases hf
  exact .of rfl rfl rfl rfl fun _ => rfl

theorem las_changesCpu : ChangesCpu (fun m t => ((t.setAFlags (m &&& t.cpu.sp, setNZ (m &&& t.cpu.sp) t.cpu.p)).setX
      (m &&& t.cpu.sp)).setSp (m &&& t.cpu.sp))
    fun m c => { c with a := m &&& c.sp, x := m &&& c.sp, sp := m &&& c.sp, p := nz (m &&& c.sp) c.p } :=
  ⟨fun m t => by rw [setNZ_eq_nz]; rfl, fun _ _ => rfl⟩

/-- Settles O28: enabled, each instruction runs its core on A, or LAS's operation, which reads its operand. -/
theorem optionalGroupEnabled : Obligations.OptionalGroupEnabled := by
  intro b1 b2 s hextra c t
  refine ⟨fun f hf => ?anc, rfl, ?alr, rfl, ?arr, rfl, ?sbx, fun f hf => ?las⟩
  case anc =>
    fin_cases hf <;> dsimp only
    · exact ⟨rfl, exec_whenExtra_eq_ends (op := 0x0B#8) hextra rfl (by rw [ancCore_eq]; rfl) rfl rfl rfl⟩
    · exact ⟨rfl, exec_whenExtra_eq_ends (op := 0x2B#8) hextra rfl (by rw [ancCore_eq]; rfl) rfl rfl rfl⟩
  case alr => exact exec_whenExtra_eq_ends (op := 0x4B#8) hextra rfl (by rw [alrCore, lsrCore_eq]; rfl) rfl rfl rfl
  case arr => exact exec_whenExtra_eq_ends (op := 0x6B#8) hextra rfl (by rw [arrCore_eq]; rfl) rfl rfl rfl
  case sbx => exact exec_whenExtra_eq_ends (op := 0xCB#8) hextra rfl (by rw [sbxCore_eq]; rfl) rfl rfl rfl
  case las =>
    have hruns := las_runs f hf
    have hexec : exec f.instr s = .next (opLas f.opcode f.operand s) := by rw [hruns.exec_eq, whenExtra, if_pos hextra]
    exact ⟨hruns.decodes, hexec.trans (congrArg _ (hruns.withSource_eq_reading las_changesCpu s))⟩

/-! ## The unknown markers -/

/-- Settles O29: a marker's meaning is the halt; the optional group's is too while the group is disabled. -/
theorem unknownMarkersHalt : Obligations.UnknownMarkersHalt := by
  intro b1 b2 s halt
  refine ⟨fun f hf => ?always, fun hextra f hf => ?optional⟩
  case always => fin_cases hf <;> exact ⟨rfl, rfl⟩
  case optional =>
    fin_cases hf <;> dsimp only <;> exact ⟨rfl, exec_marker (by rw [hextra]; rfl)⟩

end Sys2Proof.Rules
end

section
/-! PROOFS. The frame of the instructions that store nothing (R110): which registers and flags a rule names, and what an operand
read can change. -/

namespace Sys2Proof.Rules

open Sys2Proof.Machine

/-! ## Reads -/

theorem fetched_readsOnly (a : Word) (s : State) : ReadsOnly s (fetched a s).2 := by
  rw [← cpuRead_eq_fetched]
  exact cpuRead_readsOnly a s

/-- `t` differs from `s` in the trace alone: what reads of plain memory change. -/
def TraceOnly (s t : State) : Prop := ∃ tr, t = { s with trace := tr }

theorem TraceOnly.refl (s : State) : TraceOnly s s := ⟨s.trace, rfl⟩

theorem TraceOnly.trans {s t u : State} : TraceOnly s t → TraceOnly t u → TraceOnly s u := by
  rintro ⟨_, rfl⟩ ⟨tr, rfl⟩
  exact ⟨tr, rfl⟩

theorem fetched_traceOnly {a : Word} {s : State} (h : (s.readSlot[blockOf a]).isPlain = true) : TraceOnly s (fetched a s).2 :=
  ⟨_, by rw [← cpuRead_eq_fetched]; exact cpuRead_plain a s h⟩

/-- Page 0 is in block 0. -/
theorem blockOf_zeroExtend16 (z : Byte) : blockOf (zeroExtend16 z) = 0 := by
  apply Fin.ext
  simp only [blockOf, zeroExtend16_eq, BitVec.toNat_ofNat, Fin.val_zero]
  omega

theorem cpuReadZeroPageWord_traceOnly {p : Byte} {s : State} (h : (s.readSlot[(0 : Fin 8)]).isPlain = true) :
    TraceOnly s (cpuReadZeroPageWord p s).2 := by
  have hread : ∀ (z : Byte) (t : State), t.readSlot = s.readSlot → TraceOnly t (cpuRead (zeroExtend16 z) t).2 := by
    intro z t ht
    rw [cpuRead_eq_fetched]
    exact fetched_traceOnly (by simpa only [ht, blockOf_zeroExtend16] using h)
  exact (hread p s rfl).trans (hread (p + 1#8) _ (cpuRead_readSlot _ _))

theorem effectiveAddress_traceOnly {m : MemOperand} {s : State} (h : pointersPlain m s) :
    TraceOnly s (effectiveAddress m s).st := by
  cases m with
  | zp | zpx | zpy | abs | absx | absy => exact .refl s
  | izx | izy => exact cpuReadZeroPageWord_traceOnly h

theorem operandRead_readsOnly (o : Source) (s : State) : ReadsOnly s (operandRead o s).2.2 := by
  rw [operandRead_eq_readSource]
  exact readSource_readsOnly o s

theorem operandRead_traceOnly {o : Source} {s : State} (h : operandPlain o s) : TraceOnly s (operandRead o s).2.2 := by
  cases o with
  | imm => exact .refl s
  | mem m =>
    obtain ⟨hpointers, hbyte⟩ := h
    exact (effectiveAddress_traceOnly hpointers).trans
      (fetched_traceOnly (by rw [effectiveAddress_readSlot]; exact hbyte))

/-- A plain byte reads as before in a state that differs from the other in what reads change, and in the CPU. -/
theorem readsSame_of_readsOnly {s t : State} (h : ReadsOnly s t) (a : Word) (c : Cpu) (n : Nat) :
    readsSame a s { t with cpu := c, stepCycles := n } := by
  obtain ⟨_, _, _, rfl⟩ := h
  exact fun hplain => busRead_congr a hplain rfl rfl rfl rfl rfl rfl

/-! ## The forms that read an operand -/

/-- The form reads its operand and then changes at most what `w` names. -/
def Form.ReadsWithin (w : Writes) (s : State) (f : Form Source) : Prop :=
  ∃ g : Byte → Cpu → Cpu, (∀ (m : Byte) (c : Cpu), w.Frame c (g m c)) ∧ exec f.instr s = .next (f.reading s g)

theorem Form.Runs.readsWithin {op : Byte → Source → State → State} {b1 b2 : Byte} {f : Form Source} {w : Writes}
    {u : Byte → State → State} {g : Byte → Cpu → Cpu} (h : f.Runs sourceLength sourceCrosses op b1 b2)
    (hu : ChangesCpu u g) (hop : ∀ (code : Byte) (o : Source) (s : State), op code o s = withSource code o u s)
    (hw : ∀ (m : Byte) (c : Cpu), w.Frame c (g m c)) (s : State) : f.ReadsWithin w s :=
  ⟨g, hw, (h.decodes_and_reads hop hu s).2⟩

theorem readingForms_readWithin (b1 b2 : Byte) (s : State) :
    ∀ g ∈ readingForms b1 b2, ∀ f ∈ g.1, f.ReadsWithin g.2 s := by
  intro g hg f hf
  fin_cases hg
  · exact (lda_runs f hf).readsWithin lda_changesCpu (fun _ _ _ => rfl) (by simp [Writes.Frame, nz]) s
  · exact (ldx_runs f hf).readsWithin ldx_changesCpu (fun _ _ _ => rfl) (by simp [Writes.Frame, nz]) s
  · exact (ldy_runs f hf).readsWithin ldy_changesCpu (fun _ _ _ => rfl) (by simp [Writes.Frame, nz]) s
  · exact (adc_runs f hf).readsWithin adc_changesCpu (fun _ _ _ => rfl) (by simp [Writes.Frame, addCore, nz]) s
  · exact (sbc_runs f (List.mem_append_left _ hf)).readsWithin sbc_changesCpu (fun _ _ _ => rfl)
      (by simp [Writes.Frame, subtract, nz]) s
  · exact (sbc_runs (b2 := b2) f (List.mem_append_right _ hf)).readsWithin sbc_changesCpu (fun _ _ _ => rfl)
      (by simp [Writes.Frame, subtract, nz]) s
  · exact (and_runs f hf).readsWithin (bitwise_changesCpu (· &&& ·)) (fun _ _ _ => rfl) (by simp [Writes.Frame, nz]) s
  · exact (ora_runs f hf).readsWithin (bitwise_changesCpu (· ||| ·)) (fun _ _ _ => rfl) (by simp [Writes.Frame, nz]) s
  · exact (eor_runs f hf).readsWithin (bitwise_changesCpu (· ^^^ ·)) (fun _ _ _ => rfl) (by simp [Writes.Frame, nz]) s
  · exact (cmp_runs f hf).readsWithin (compare_changesCpu Cpu.a) (fun _ _ _ => rfl)
      (by simp [Writes.Frame, Rules.compare]) s
  · exact (cpx_runs f hf).readsWithin (compare_changesCpu Cpu.x) (fun _ _ _ => rfl)
      (by simp [Writes.Frame, Rules.compare]) s
  · exact (cpy_runs f hf).readsWithin (compare_changesCpu Cpu.y) (fun _ _ _ => rfl)
      (by simp [Writes.Frame, Rules.compare]) s
  · exact (bit_runs f hf).readsWithin bit_changesCpu (fun _ _ _ => rfl) (by simp [Writes.Frame]) s
  · exact (lax_runs f hf).readsWithin lax_changesCpu (fun _ _ _ => rfl) (by simp [Writes.Frame, nz]) s
  · exact (nopRead_runs (b2 := b2) f (List.mem_append_left _ hf)).readsWithin nop_changesCpu (fun _ _ _ => rfl)
      (by simp [Writes.Frame]) s
  · exact (nopRead_runs f (List.mem_append_right _ hf)).readsWithin nop_changesCpu (fun _ _ _ => rfl)
      (by simp [Writes.Frame]) s

theorem las_readsWithin {b1 b2 : Byte} {s : State} (hextra : s.params.extraUnofficial = true) :
    ∀ f ∈ las b1 b2, f.ReadsWithin { a := true, x := true, sp := true, z := true, n := true } s := by
  intro f hf
  obtain ⟨-, -, -, -, -, -, -, hlas⟩ := optionalGroupEnabled b1 b2 s hextra
  exact ⟨_, by simp [Writes.Frame, nz], (hlas f hf).2⟩

/-- The frame of a form that reads. -/
theorem Form.ReadsWithin.frame {w : Writes} {s t : State} {f : Form Source} (h : f.ReadsWithin w s)
    (ht : exec f.instr s = .next t) :
    w.Frame s.cpu t.cpu ∧
    t = { s with cpu := t.cpu, stepCycles := t.stepCycles, trace := t.trace, ppu := t.ppu, deviceLog := t.deviceLog } ∧
    (operandPlain f.operand s → t.ppu = s.ppu ∧ t.deviceLog = s.deviceLog) ∧
    ∀ a : Word, readsSame a s t := by
  obtain ⟨g, hw, hexec⟩ := h
  rw [hexec] at ht
  cases ht
  have hread := operandRead_readsOnly f.operand s
  refine ⟨hw _ _, ?only, fun hplain => ?plain, fun a => readsSame_of_readsOnly hread a _ _⟩
  case only =>
    unfold Form.reading
    generalize operandRead f.operand s = r at hread
    obtain ⟨_, _, _, hst⟩ := hread
    simp only [hst, ends]
  case plain =>
    obtain ⟨_, hst⟩ := operandRead_traceOnly hplain
    simp only [Form.reading, ends, hst]
    exact ⟨trivial, trivial⟩

/-! ## The instructions that change the CPU alone -/

/-- The instruction changes at most what `w` names, PC and the cycle count. -/
def RegistersWithin (w : Writes) (s : State) (i : Instr) : Prop :=
  ∃ (c : Cpu) (n : Nat), w.Frame s.cpu c ∧ exec i s = .next { s with cpu := c, stepCycles := n }

/-- A branch writes PC alone, taken or not. -/
theorem branch_within {i : Instr} {op r : Byte} {taken : Bool} {s : State} (h : exec i s = .next (branch op taken r s)) :
    RegistersWithin {} s i := by
  have hcycles : ∃ n pc, branch op taken r s = { s with cpu := { s.cpu with pc := pc }, stepCycles := n } := by
    cases taken with
    | true => exact ⟨_, _, rfl⟩
    | false => exact ⟨_, _, rfl⟩
  obtain ⟨n, pc, hbranch⟩ := hcycles
  exact ⟨{ s.cpu with pc := pc }, n, by simp [Writes.Frame], by rw [h, hbranch]⟩

/-- The list ends with the eight branches. -/
theorem registerForms_within (b1 b2 : Byte) (s : State) : ∀ g ∈ registerForms b1 b2, RegistersWithin g.2 s g.1 := by
  intro g hg
  rw [← List.take_append_drop 29 (registerForms b1 b2), List.mem_append] at hg
  rcases hg with hg | hg
  · fin_cases hg <;>
      exact ⟨_, _, by simp [Writes.Frame, setNZ, incCore, decCore, aslCore, lsrCore, rolCore, rorCore], rfl⟩
  · fin_cases hg <;> exact branch_within rfl

theorem optionalForms_within {b1 : Byte} {s : State} (hextra : s.params.extraUnofficial = true) :
    ∀ g ∈ optionalForms b1, RegistersWithin g.2 s g.1 := by
  intro g hg
  have hrun : ∀ (op : Byte) (f : State → State), whenExtra op f s = f s := fun op f => if_pos hextra
  fin_cases hg <;>
    exact ⟨_, _, by simp [Writes.Frame, setNZ, ancCore, alrCore, lsrCore, arrCore, sbxCore], congrArg _ (hrun _ _)⟩

theorem RegistersWithin.frame {w : Writes} {s t : State} {i : Instr} (h : RegistersWithin w s i) (ht : exec i s = .next t) :
    w.Frame s.cpu t.cpu ∧ t = { s with cpu := t.cpu, stepCycles := t.stepCycles } ∧ ∀ a : Word, readsSame a s t := by
  obtain ⟨c, n, hw, hexec⟩ := h
  rw [hexec] at ht
  cases ht
  exact ⟨hw, rfl, fun a => readsSame_of_readsOnly (.refl s) a c n⟩

/-- Settles O30: each form reads, or not even that, and then writes what its rule names. -/
theorem nonStoringFrame : Obligations.NonStoringFrame := by
  intro b1 b2 s t
  refine ⟨fun g hg f hf => ?reading, fun g hg => ?register, fun hextra g hg => ?optional, fun hextra f hf => ?las⟩
  case reading => exact (readingForms_readWithin b1 b2 s g hg f hf).frame
  case register => exact (registerForms_within b1 b2 s g hg).frame
  case optional => exact (optionalForms_within hextra g hg).frame
  case las => exact (las_readsWithin hextra f hf).frame

end Sys2Proof.Rules
end

section
/-! PROOFS. The frame of the instructions that store, push and pull (R110, R111): what writes can change, by address. -/

namespace Sys2Proof.Rules

open Sys2Proof.Machine

/-! ## Writes -/

/-- A write to a stored byte changes that byte's array alone. -/
theorem busWrite_of_place {a : Word} {v : Byte} {s : State} (h : writePlace a s ≠ none) :
    ∃ ra pr fl, busWrite a v s = { s with ram := ra, prgRam := pr, flat := fl } := by
  unfold writePlace at h
  unfold busWrite
  split at h <;> rename_i hslot <;> simp only [hslot]
  case h_1 => exact ⟨_, _, _, rfl⟩
  case h_2 => exact ⟨_, _, _, rfl⟩
  case h_3 => exact ⟨_, _, _, rfl⟩
  all_goals exact absurd rfl h

theorem fetched_trace (a : Word) (s : State) : (fetched a s).2.trace = s.trace ++ [.read a] := rfl

/-- A plain address is untouched: the slots and the place behind it are the same, and so is its byte. -/
structure SameAt (a : Word) (s t : State) : Prop where
  callsBack : t.mapper.callsBack = s.mapper.callsBack
  readSlot : t.readSlot = s.readSlot
  writeSlot : t.writeSlot = s.writeSlot
  place : readPlace a t = readPlace a s
  byte : readsSame a s t

theorem SameAt.trans {a : Word} {s t u : State} (h : SameAt a s t) (k : SameAt a t u) : SameAt a s u where
  callsBack := k.callsBack.trans h.callsBack
  readSlot := k.readSlot.trans h.readSlot
  writeSlot := k.writeSlot.trans h.writeSlot
  place := k.place.trans h.place
  byte hplain := (k.byte (by rwa [h.readSlot])).trans (h.byte hplain)

theorem SameAt.of_eq {a : Word} {s t : State} (hr : t.readSlot = s.readSlot) (hw : t.writeSlot = s.writeSlot)
    (hm : t.mapper = s.mapper) (hc : t.cart = s.cart) (hram : t.ram = s.ram) (hprg : t.prgRam = s.prgRam)
    (hflat : t.flat = s.flat) : SameAt a s t where
  callsBack := by rw [hm]
  readSlot := hr
  writeSlot := hw
  place := by simp only [readPlace, hr, hm, hc]
  byte hplain := busRead_congr a hplain hr hram hprg hflat hc hm

theorem SameAt.of_readsOnly {s t : State} (h : ReadsOnly s t) (a : Word) : SameAt a s t :=
  .of_eq h.readSlot h.writeSlot h.mapper h.cart h.ram h.prgRam h.flat

/-- What is apart stays so. -/
theorem SameAt.apart_iff {a : Word} {s t : State} (h : SameAt a s t) (w : Word) : apart a w t ↔ apart a w s := by
  simp only [apart, reachesMapper, writePlace, h.callsBack, h.readSlot, h.writeSlot, h.place]

/-- A mapper that cannot call back hears nothing. -/
theorem mapperInput_of_not_callsBack {s : State} (h : s.mapper.callsBack = false) (e : MapperInput) : mapperInput e s = s := by
  cases hm : s.mapper with
  | nrom => simp only [mapperInput, hm]
  | uxrom => simp only [mapperInput, hm]
  | contract => rw [hm] at h; cases h

/-- A bank is switched through a slot of the mapper's PRG-ROM alone. -/
theorem busWrite_mapper_of_not_callsBack {w : Word} {s : State} (h : s.mapper.callsBack = false)
    (hslot : s.writeSlot[blockOf w] ≠ .cartridge) (v : Byte) : (busWrite w v s).mapper = s.mapper := by
  by_cases hd : s.writeSlot[blockOf w] = .mapperDevice
  · simp only [busWrite, hd]
    rw [mapperInput_of_not_callsBack (s := deviceWrite w v s) h]
    rfl
  · exact (busWrite_mapperSame w v s ⟨hslot, hd⟩).mapper

/-- The place behind an address depends on the mapper where the slot is its PRG-ROM alone. -/
theorem readPlace_congr {a : Word} {s t : State} (hr : t.readSlot = s.readSlot) (hc : t.cart = s.cart)
    (hm : s.readSlot[blockOf a] = .cartridge → t.mapper = s.mapper) : readPlace a t = readPlace a s := by
  cases hslot : s.readSlot[blockOf a] with
  | cartridge => simp only [readPlace, hr, hc, hslot, hm hslot]
  | ram | prgRam | flat | unmapped | ppu | apuIo | mapperDevice => simp only [readPlace, hr, hslot]

/-- A write that does not reach a mapper, or reaches one that makes no calls, leaves the slots alone; and where it switches no
bank under `a`, the place behind `a`. -/
theorem busWrite_sameAt {a w : Word} {v : Byte} {s : State} (h : apart a w s) : SameAt a s (busWrite w v s) := by
  obtain ⟨hplace, hmapper⟩ := h
  have hkept := busWrite_kept w v s
  have hbyte : readsSame a s (busWrite w v s) := fun hplain =>
    busRead_busWrite_other w a v s hplain hplace (by
      rcases hmapper with hm | ⟨hcalls, hbank⟩
      · exact .inr (not_or.mp hm)
      · exact .inl ⟨hcalls, Decidable.or_iff_not_imp_left.mpr fun hc => hbank (not_not.mp hc)⟩)
  rcases hmapper with hm | ⟨hcalls, hbank⟩
  · have hsame := busWrite_mapperSame w v s (not_or.mp hm)
    exact ⟨hkept.callsBack, hsame.readSlot, hsame.writeSlot,
      readPlace_congr hsame.readSlot (busWrite_cart _ _ _) fun _ => hsame.mapper, hbyte⟩
  · exact ⟨hkept.callsBack, hkept.readSlot hcalls, hkept.writeSlot hcalls,
      readPlace_congr (hkept.readSlot hcalls) (busWrite_cart _ _ _) fun hread =>
        busWrite_mapper_of_not_callsBack hcalls (fun hw => hbank hw hread) v, hbyte⟩

/-! ## What an instruction does to memory and devices -/

/-- What an instruction can change beside the state the host owns. -/
def OwnStateOnly (s t : State) : Prop :=
  t = { s with cpu := t.cpu, stepCycles := t.stepCycles, trace := t.trace, ppu := t.ppu, deviceLog := t.deviceLog,
               nmiPending := t.nmiPending, nmiDelay := t.nmiDelay, irqRequest := t.irqRequest,
               stallCycles := t.stallCycles, ram := t.ram, prgRam := t.prgRam, flat := t.flat, mapper := t.mapper,
               readSlot := t.readSlot, writeSlot := t.writeSlot }

theorem OwnStateOnly.trans {s t u : State} (h : OwnStateOnly s t) (k : OwnStateOnly t u) : OwnStateOnly s u := by
  rw [OwnStateOnly] at h k ⊢
  rw [h] at k
  exact k

/-- From `s` to `t` there are reads, register writes and writes at the addresses `ws`. -/
structure Touches (ws : List Word) (s t : State) : Prop where
  own : OwnStateOnly s t
  kept : MapperKept s t
  same : ∀ a : Word, (∀ w ∈ ws, apart a w s) → SameAt a s t

theorem Touches.trans {ws vs : List Word} {s t u : State} (h : Touches ws s t) (k : Touches vs t u) :
    Touches (ws ++ vs) s u where
  own := h.own.trans k.own
  kept := h.kept.trans k.kept
  same a ha := by
    have hfirst := h.same a fun w hw => ha w (List.mem_append_left _ hw)
    exact hfirst.trans (k.same a fun w hw => (hfirst.apart_iff w).mpr (ha w (List.mem_append_right _ hw)))

theorem touches_of_readsOnly {s t : State} (h : ReadsOnly s t) : Touches [] s t where
  own := by obtain ⟨_, _, _, rfl⟩ := h; rfl
  kept := h.mapperSame.kept
  same a _ := .of_readsOnly h a

theorem touches_withCore (c : Cpu) (n : Nat) (s : State) : Touches [] s { s with cpu := c, stepCycles := n } where
  own := rfl
  kept := MapperSame.kept ⟨rfl, rfl, rfl, rfl⟩
  same _ _ := .of_eq rfl rfl rfl rfl rfl rfl rfl

theorem touches_written (w : Word) (v : Byte) (s : State) : Touches [w] s (written w v s) where
  own := by
    obtain ⟨_, _, _, _, _, _, _, _, _, _, _, _, h⟩ := busWrite_writesOnly w v s
    rw [written, h]
    rfl
  kept := by
    have h : MapperSame (busWrite w v s) (written w v s) := ⟨rfl, rfl, rfl, rfl⟩
    exact (busWrite_kept w v s).trans h.kept
  same a ha := by
    have h : SameAt a (busWrite w v s) (written w v s) := .of_eq rfl rfl rfl rfl rfl rfl rfl
    exact (busWrite_sameAt (ha w List.mem_cons_self)).trans h

/-- Everything from `s` to `t` happened in memory. -/
def MemoryOnly (s t : State) : Prop :=
  ∃ c n tr ra pr fl, t = { s with cpu := c, stepCycles := n, trace := tr, ram := ra, prgRam := pr, flat := fl }

theorem MemoryOnly.trans {s t u : State} : MemoryOnly s t → MemoryOnly t u → MemoryOnly s u := by
  rintro ⟨_, _, _, _, _, _, rfl⟩ ⟨c, n, tr, ra, pr, fl, rfl⟩
  exact ⟨c, n, tr, ra, pr, fl, rfl⟩

theorem TraceOnly.memoryOnly {s t : State} : TraceOnly s t → MemoryOnly s t := by
  rintro ⟨tr, rfl⟩
  exact ⟨_, _, tr, _, _, _, rfl⟩

theorem written_memoryOnly {w : Word} {v : Byte} {s : State} (h : writePlace w s ≠ none) :
    MemoryOnly s (written w v s) := by
  obtain ⟨ra, pr, fl, hwrite⟩ := busWrite_of_place h
  exact ⟨_, _, _, ra, pr, fl, by rw [written, hwrite]⟩

/-! ## The forms that store a byte -/

/-- The form stores a byte at its effective address, with or without reading it first, and changes of the CPU at most what `w`
names. -/
inductive Form.StoresWithin (w : Writes) (s : State) (f : Form MemOperand) : Prop
  | storing (v : Byte) (hcls : (entryOf f.opcode).cls = .write) (hexec : exec f.instr s = .next (f.storing s v))
  | modifying (new : Byte → Byte) (g : Byte → Cpu → Cpu) (hcls : (entryOf f.opcode).cls = .rmw)
      (hw : ∀ (m : Byte) (c : Cpu), w.Frame c (g m c)) (hexec : exec f.instr s = .next (f.modifying s new g))

theorem storingForms_storeWithin (b1 b2 : Byte) (s : State) :
    ∀ g ∈ storingForms b1 b2, ∀ f ∈ g.1, f.StoresWithin g.2 s := by
  obtain ⟨hsta, hstx, hsty, hsax⟩ := storeInstructions b1 b2 s
  obtain ⟨hinc, hdec, -⟩ := incrementDecrement b1 b2 s
  obtain ⟨-, -, -, -, -, -, -, -, hasl, hlsr, hrol, hror⟩ := shiftsAndRotates b1 b2 s
  obtain ⟨hdcp, hisb⟩ := decrementCompareIncrementSubtract b1 b2 s
  obtain ⟨hslo, hrla, hsre, hrra⟩ := shiftAndCombine b1 b2 s
  intro g hg f hf
  fin_cases hg
  · exact .storing _ (by fin_cases hf <;> dsimp only <;> rfl) (hsta f hf).2
  · exact .storing _ (by fin_cases hf <;> dsimp only <;> rfl) (hstx f hf).2
  · exact .storing _ (by fin_cases hf <;> dsimp only <;> rfl) (hsty f hf).2
  · exact .storing _ (by fin_cases hf <;> dsimp only <;> rfl) (hsax f hf).2
  · exact .modifying _ _ (by fin_cases hf <;> dsimp only <;> rfl) (by simp [Writes.Frame, nz]) (hinc f hf).2
  · exact .modifying _ _ (by fin_cases hf <;> dsimp only <;> rfl) (by simp [Writes.Frame, nz]) (hdec f hf).2
  · exact .modifying _ _ (by fin_cases hf <;> dsimp only <;> rfl) (by simp [Writes.Frame, leftFlags, nz]) (hasl f hf).2
  · exact .modifying _ _ (by fin_cases hf <;> dsimp only <;> rfl) (by simp [Writes.Frame, rightFlags, nz]) (hlsr f hf).2
  · exact .modifying _ _ (by fin_cases hf <;> dsimp only <;> rfl) (by simp [Writes.Frame, leftFlags, nz]) (hrol f hf).2
  · exact .modifying _ _ (by fin_cases hf <;> dsimp only <;> rfl) (by simp [Writes.Frame, rightFlags, nz]) (hror f hf).2
  · exact .modifying _ _ (by fin_cases hf <;> dsimp only <;> rfl) (by simp [Writes.Frame, Rules.compare]) (hdcp f hf).2
  · exact .modifying _ _ (by fin_cases hf <;> dsimp only <;> rfl) (by simp [Writes.Frame, subtract, nz]) (hisb f hf).2
  · exact .modifying _ _ (by fin_cases hf <;> dsimp only <;> rfl) (by simp [Writes.Frame, leftFlags, nz]) (hslo f hf).2
  · exact .modifying _ _ (by fin_cases hf <;> dsimp only <;> rfl) (by simp [Writes.Frame, leftFlags, nz]) (hrla f hf).2
  · exact .modifying _ _ (by fin_cases hf <;> dsimp only <;> rfl) (by simp [Writes.Frame, rightFlags, nz]) (hsre f hf).2
  · exact .modifying _ _ (by fin_cases hf <;> dsimp only <;> rfl) (by simp [Writes.Frame, addCore, nz]) (hrra f hf).2

/-- Either way it ends after one write, from a state that reads alone lead to. -/
theorem Form.StoresWithin.ends_written {w : Writes} {s : State} {f : Form MemOperand} (h : f.StoresWithin w s) :
    let e := effectiveAddress f.operand s
    ∃ (c : Cpu) (n : Nat) (v : Byte) (u : State), w.Frame s.cpu c ∧ ReadsOnly s u ∧
      (pointersPlain f.operand s → ((entryOf f.opcode).cls = .write ∨ (s.readSlot[blockOf e.addr]).isPlain = true) →
        TraceOnly s u) ∧
      exec f.instr s = .next { written e.addr v u with cpu := c, stepCycles := n } := by
  intro e
  have hpointer := effectiveAddress_readsOnly f.operand s
  cases h with
  | storing v hcls hexec =>
    exact ⟨_, _, v, e.st, by simp [Writes.Frame], hpointer, fun hplain _ => effectiveAddress_traceOnly hplain, hexec⟩
  | modifying new g hcls hw hexec =>
    refine ⟨_, _, _, (fetched e.addr e.st).2, ?frame, hpointer.trans (fetched_readsOnly _ _), fun hplain hbyte => ?_,
      hexec⟩
    case frame => exact hw _ s.cpu
    have hbyte : (s.readSlot[blockOf e.addr]).isPlain = true := hbyte.resolve_left (by rw [hcls]; decide)
    exact (effectiveAddress_traceOnly hplain).trans (fetched_traceOnly (by rw [effectiveAddress_readSlot]; exact hbyte))

/-- Settles O31: one write, and before it reads alone. -/
theorem storingFrame : Obligations.StoringFrame := by
  intro b1 b2 s t g hg f hf ht e
  obtain ⟨c, n, v, u, hw, hreads, hplain, hexec⟩ := (storingForms_storeWithin b1 b2 s g hg f hf).ends_written
  rw [hexec] at ht
  cases ht
  have htouches : Touches [e.addr] s { written e.addr v u with cpu := c, stepCycles := n } :=
    ((touches_of_readsOnly hreads).trans (touches_written e.addr v u)).trans (touches_withCore c n _)
  refine ⟨hw, htouches.own, fun a ha => (htouches.same a ?apart).byte, fun hcalls => ?kept, fun hplace => ?place⟩
  case apart => exact fun w hmem => List.mem_singleton.mp hmem ▸ ha
  case kept => exact ⟨htouches.kept.irqRequest hcalls, htouches.kept.readSlot hcalls, htouches.kept.writeSlot hcalls⟩
  case place =>
    have hplace : writePlace e.addr u ≠ none := by simpa only [writePlace, hreads.writeSlot] using hplace
    obtain ⟨_, _, _, _, _, _, hmem⟩ : MemoryOnly u (written (effectiveAddress f.operand s).addr v u) :=
      written_memoryOnly hplace
    simp only [hmem]
    refine ⟨hreads.nmiPending, hreads.nmiDelay, hreads.irqRequest, hreads.stallCycles, hreads.mapper, hreads.readSlot,
      hreads.writeSlot, fun hpointers hbyte => ?_⟩
    obtain ⟨_, rfl⟩ := hplain hpointers hbyte
    exact ⟨rfl, rfl⟩

end Sys2Proof.Rules
end

section
/-! PROOFS. The frame of the instructions that push, pull or read a pointer (R17, R111), from the pushes, pulls and reads that
the statements about them name. -/

namespace Sys2Proof.Rules

open Sys2Proof.Machine

/-! ## Pushes, pulls and reads, one after the other -/

/-- The addresses of the bytes that `n` pushes store (R17). -/
def pushedAt (n : Nat) (s : State) : List Word := (List.range n).map fun k => page1 (s.cpu.sp - BitVec.ofNat 8 k)

section
variable {ws : List Word} {s t : State}

theorem Touches.withCore (h : Touches ws s t) (c : Cpu) (n : Nat) : Touches ws s { t with cpu := c, stepCycles := n } :=
  List.append_nil ws ▸ h.trans (touches_withCore c n t)

theorem Touches.fetch (h : Touches ws s t) (a : Word) : Touches ws s (fetched a t).2 :=
  List.append_nil ws ▸ h.trans (touches_of_readsOnly (fetched_readsOnly a t))

theorem Touches.pull (h : Touches ws s t) : Touches ws s (pulled t).2 := (h.withCore _ t.stepCycles).fetch _

theorem Touches.push {n : Nat} (h : Touches (pushedAt n s) s t) (hsp : t.cpu.sp = s.cpu.sp - BitVec.ofNat 8 n) (v : Byte) :
    Touches (pushedAt (n + 1) s) s (pushed v t) := by
  have hlist : pushedAt (n + 1) s = pushedAt n s ++ [page1 t.cpu.sp] := by
    rw [pushedAt, List.range_succ, List.map_append, hsp]; rfl
  rw [hlist]
  exact (h.trans (touches_written (page1 t.cpu.sp) v t)).withCore (pushed v t).cpu _

theorem touches_refl (s : State) : Touches (pushedAt 0 s) s s := touches_of_readsOnly (.refl s)

theorem MemoryOnly.refl (s : State) : MemoryOnly s s := ⟨_, _, _, _, _, _, rfl⟩

theorem MemoryOnly.withCore (h : MemoryOnly s t) (c : Cpu) (n : Nat) : MemoryOnly s { t with cpu := c, stepCycles := n } :=
  h.trans ⟨c, n, _, _, _, _, rfl⟩

theorem MemoryOnly.fetch (h : MemoryOnly s t) {a : Word} (hplain : (s.readSlot[blockOf a]).isPlain = true) :
    MemoryOnly s (fetched a t).2 := by
  have hslots : t.readSlot = s.readSlot := by obtain ⟨_, _, _, _, _, _, rfl⟩ := h; rfl
  exact h.trans (fetched_traceOnly (by rwa [hslots])).memoryOnly

theorem MemoryOnly.pull (h : MemoryOnly s t) (hplain : (s.readSlot[(0 : Fin 8)]).isPlain = true) :
    MemoryOnly s (pulled t).2 := (h.withCore _ t.stepCycles).fetch (by simp only [blockOf_page1]; exact hplain)

/-- Whether a write goes to memory depends on the slot alone. -/
theorem writePlace_eq_none_congr {a b : Word} (h : s.writeSlot[blockOf a] = s.writeSlot[blockOf b]) :
    writePlace a s = none ↔ writePlace b s = none := by
  cases hb : s.writeSlot[blockOf b] <;> simp [writePlace, h, hb]

theorem MemoryOnly.push (h : MemoryOnly s t) (hplace : writePlace 0x0100#16 s ≠ none) (v : Byte) :
    MemoryOnly s (pushed v t) := by
  have hplace : writePlace (page1 t.cpu.sp) t ≠ none := by
    obtain ⟨_, _, _, _, _, _, rfl⟩ := h
    rwa [Ne, writePlace_eq_none_congr (b := 0x0100#16) (by simp only [blockOf_page1]; rfl)]
  exact (h.trans (written_memoryOnly hplace)).withCore _ _

end

/-- The second byte of JMP indirect's pointer is in the block of the first (R159). -/
theorem blockOf_samePage (w : Word) :
    blockOf (BitVec.ofNat 16 (w.toNat / 256 * 256 + (w.toNat + 1) % 256)) = blockOf w := by
  apply Fin.ext
  simp only [blockOf, BitVec.toNat_ofNat]
  omega

/-! ## The instructions -/

/-- The instruction changes of the CPU at most what `w` names, and beside that makes reads and `n` pushes; where these are of
plain memory, nothing but memory changes. -/
def StackWithin (n : Nat) (w : Writes) (s : State) (i : Instr) : Prop :=
  ∃ (c : Cpu) (k : Nat) (u : State), w.Frame s.cpu c ∧ Touches (pushedAt n s) s u ∧ (stackPlain i s → MemoryOnly s u) ∧
    exec i s = .next { u with cpu := c, stepCycles := k }

theorem stackForms_within (b1 b2 : Byte) (s : State) : ∀ g ∈ stackForms b1 b2, StackWithin g.2.1 g.2.2 s g.1 := by
  obtain ⟨-, hpha, -, hphp, -, hpla, -, hplp⟩ := stackInstructions b1 b2 s
  obtain ⟨-, -, -, hjsr, -, hrts, -, hrti⟩ := jumpsAndReturns b1 b2 s
  obtain ⟨-, hbrk, -⟩ := softwareInterrupt b1 b2 s
  obtain ⟨-, -, hjmp⟩ := pointerAddresses 0#8 (joinBytes b2 b1) s
  have hone (v : Byte) := (touches_refl s).push (by simp) v
  have htwo (v v' : Byte) := (hone v).push rfl v'
  have hthree (v v' v'' : Byte) := (htwo v v').push (by rw [pushed_cpu, pushed_cpu, BitVec.sub_sub]; rfl) v''
  have hrefl := MemoryOnly.refl s
  simp only [stackForms, List.forall_mem_cons]
  refine ⟨?pha, ?php, ?jsr, ?brk, ?pla, ?plp, ?rts, ?rti, ?jmpInd, List.forall_mem_nil _⟩
  case pha => exact ⟨_, _, _, by simp [Writes.Frame], hone _, fun h => hrefl.push h _, hpha⟩
  case php => exact ⟨_, _, _, by simp [Writes.Frame], hone _, fun h => hrefl.push h _, hphp⟩
  case jsr => exact ⟨_, _, _, by simp [Writes.Frame], htwo _ _, fun h => (hrefl.push h _).push h _, hjsr⟩
  case brk =>
    exact ⟨_, _, _, by simp [Writes.Frame], (((hthree _ _ _).withCore _ _).fetch _).fetch _,
      fun ⟨hpush, hread⟩ => (((((hrefl.push hpush _).push hpush _).push hpush _).withCore _ _).fetch
        (a := 0xFFFE#16) hread).fetch (a := 0xFFFF#16) hread, hbrk⟩
  case pla => exact ⟨_, _, _, by simp [Writes.Frame, nz], (touches_refl s).pull, fun h => hrefl.pull h, hpla⟩
  case plp => exact ⟨_, _, _, by simp [Writes.Frame], (touches_refl s).pull, fun h => hrefl.pull h, hplp⟩
  case rts =>
    exact ⟨_, _, _, by simp [Writes.Frame], (touches_refl s).pull.pull, fun h => (hrefl.pull h).pull h, hrts⟩
  case rti =>
    exact ⟨_, _, _, by simp [Writes.Frame], (touches_refl s).pull.pull.pull, fun h => ((hrefl.pull h).pull h).pull h, hrti⟩
  case jmpInd =>
    exact ⟨_, _, _, by simp [Writes.Frame], ((touches_refl s).fetch _).fetch _,
      fun h => (hrefl.fetch h).fetch (by simp only [blockOf_samePage]; exact h), hjmp⟩

/-- Settles O32: the pushes come one below the other, and reads and pulls change no memory. -/
theorem stackFrame : Obligations.StackFrame := by
  intro b1 b2 s t g hg ht
  obtain ⟨c, k, u, hw, htouches, hplain, hexec⟩ := stackForms_within b1 b2 s g hg
  rw [hexec] at ht
  cases ht
  have htouches := htouches.withCore c k
  refine ⟨hw, htouches.own, fun a ha => (htouches.same a ?apart).byte, fun hcalls => ?kept, fun hstack => ?plain⟩
  case apart =>
    intro w hmem
    obtain ⟨j, hj, rfl⟩ := List.mem_map.mp hmem
    exact ha j (List.mem_range.mp hj)
  case kept => exact ⟨htouches.kept.irqRequest hcalls, htouches.kept.readSlot hcalls, htouches.kept.writeSlot hcalls⟩
  case plain =>
    obtain ⟨_, _, _, _, _, _, rfl⟩ := hplain hstack
    exact ⟨rfl, rfl, rfl, rfl, rfl, rfl, rfl, rfl, rfl⟩

end Sys2Proof.Rules
end

section
/-! PROOFS. The data accesses of an executed instruction (R110, R171). Every implemented instruction is one of the forms that
the frames speak of, and each group of forms makes its accesses. -/

namespace Sys2Proof.Rules

open Sys2Proof.Machine

/-! ## Every implemented instruction is one of the forms -/

/-- Every instruction decodes from its opcode and some operand bytes. -/
theorem eq_decodeOpcode (i : Instr) : ∃ b1 b2 : Byte, i = decodeOpcode i.opcode b1 b2 := by
  obtain ⟨-, hgives, -⟩ := table_statement i
  unfold decodeOpcode
  cases hform : (entryOf i.opcode).form with
  | bare j =>
    rw [hform] at hgives
    exact ⟨0#8, 0#8, hgives.1.symm⟩
  | byte f =>
    rw [hform] at hgives
    obtain ⟨⟨b, hi⟩, -⟩ := hgives
    exact ⟨b, 0#8, hi.symm⟩
  | word f =>
    rw [hform] at hgives
    obtain ⟨⟨w, hi⟩, -⟩ := hgives
    exact ⟨loByte w, hiByte w, by simp only [joinBytes_bytes, hi]⟩

/-- The instructions of a list of groups of forms. -/
def instrsOf {α : Type} (gs : List (List (Form α) × Writes)) : List Instr := gs.flatMap fun g => g.1.map Form.instr

def readingInstrs (b1 b2 : Byte) : List Instr := instrsOf (readingForms b1 b2)
def storingInstrs (b1 b2 : Byte) : List Instr := instrsOf (storingForms b1 b2)
def registerInstrs (b1 b2 : Byte) : List Instr := (registerForms b1 b2).map (·.1)
def optionalInstrs (b1 : Byte) : List Instr := (optionalForms b1).map (·.1)
def stackInstrs (b1 b2 : Byte) : List Instr := (stackForms b1 b2).map (·.1)

def readingOpcodes : List Byte := (readingInstrs 0#8 0#8).map Instr.opcode
def storingOpcodes : List Byte := (storingInstrs 0#8 0#8).map Instr.opcode
def registerOpcodes : List Byte := (registerInstrs 0#8 0#8).map Instr.opcode
def optionalOpcodes : List Byte := (optionalInstrs 0#8).map Instr.opcode
def stackOpcodes : List Byte := (stackInstrs 0#8 0#8).map Instr.opcode

/-- In two parts, for the length of the list. -/
theorem readingInstrs_eq (b1 b2 : Byte) : readingInstrs b1 b2 = readingOpcodes.map (decodeOpcode · b1 b2) := by
  have hfirst : instrsOf ((readingForms b1 b2).take 8) = (readingOpcodes.take 51).map (decodeOpcode · b1 b2) := rfl
  have hsecond : instrsOf ((readingForms b1 b2).drop 8) = (readingOpcodes.drop 51).map (decodeOpcode · b1 b2) := rfl
  rw [readingInstrs, instrsOf, ← List.take_append_drop 8 (readingForms b1 b2), List.flatMap_append]
  exact (congrArg₂ _ hfirst hsecond).trans (by rw [← List.map_append, List.take_append_drop])

theorem storingInstrs_eq (b1 b2 : Byte) : storingInstrs b1 b2 = storingOpcodes.map (decodeOpcode · b1 b2) := rfl
theorem registerInstrs_eq (b1 b2 : Byte) : registerInstrs b1 b2 = registerOpcodes.map (decodeOpcode · b1 b2) := rfl
theorem optionalInstrs_eq (b1 b2 : Byte) : optionalInstrs b1 = optionalOpcodes.map (decodeOpcode · b1 b2) := rfl
theorem stackInstrs_eq (b1 b2 : Byte) : stackInstrs b1 b2 = stackOpcodes.map (decodeOpcode · b1 b2) := rfl


/-- The opcode of an implemented entry is in the group of its class. -/
theorem opcode_of_class : ∀ op : Byte, (entryOf op).isMarker true = false →
    ((entryOf op).cls = .read → op = 0xBB#8 ∨ op ∈ readingOpcodes) ∧
    ((entryOf op).cls = .write ∨ (entryOf op).cls = .rmw → op ∈ storingOpcodes) ∧
    ((entryOf op).cls = .none → op ∈ registerOpcodes ∨ op ∈ optionalOpcodes ∨ op ∈ stackOpcodes ∨
        op ∈ readingOpcodes) := by
  decide

/-- An optional instruction is implemented where the group is enabled alone (R170). -/
theorem optional_of_opcode : ∀ op ∈ 0xBB#8 :: optionalOpcodes, (entryOf op).isMarker false = true := by decide

theorem isMarker_true_of_not : ∀ (extra : Bool) (op : Byte),
    (entryOf op).isMarker extra = false → (entryOf op).isMarker true = false := by decide

theorem exists_form_of_mem_instrsOf {α : Type} {gs : List (List (Form α) × Writes)} {i : Instr} (h : i ∈ instrsOf gs) :
    ∃ g ∈ gs, ∃ f ∈ g.1, f.instr = i := by
  obtain ⟨g, hg, hi⟩ := List.mem_flatMap.mp h
  obtain ⟨f, hf, rfl⟩ := List.mem_map.mp hi
  exact ⟨g, hg, f, hf, rfl⟩

/-! ## The accesses of each group -/

/-- The operand of an instruction that reads from a source. -/
def sourceOperand : Source → Operand
  | .imm b => .imm b
  | .mem m => .mem m

/-- The class of an instruction that reads from a source. -/
def sourceClass : Source → AccessClass
  | .imm _ => .none
  | .mem _ => .read

def Form.ReadsItsOperand (f : Form Source) : Prop :=
  f.instr.operand = sourceOperand f.operand ∧ (entryOf f.instr.opcode).cls = sourceClass f.operand

/-- For a form written out: its parts are compared with the table as literals. -/
theorem Form.ReadsItsOperand.of {code : Byte} {i : Instr} {o : Source} {cycles : Nat} {plus : Plus}
    (hi : i.operand = sourceOperand o) (hop : i.opcode = code) (hc : (entryOf code).cls = sourceClass o) :
    (⟨code, i, o, cycles, plus⟩ : Form Source).ReadsItsOperand := ⟨hi, hop ▸ hc⟩

theorem readingForms_readTheirOperand (b1 b2 : Byte) : ∀ g ∈ readingForms b1 b2, ∀ f ∈ g.1, f.ReadsItsOperand := by
  intro g hg f hf
  fin_cases hg <;> fin_cases hf <;> exact .of rfl rfl rfl

theorem las_readsItsOperand (b1 b2 : Byte) : ∀ f ∈ las b1 b2, f.ReadsItsOperand := by
  intro f hf
  fin_cases hf
  exact .of rfl rfl rfl

theorem storingForms_operand (b1 b2 : Byte) :
    ∀ g ∈ storingForms b1 b2, ∀ f ∈ g.1, f.instr.operand = .mem f.operand ∧ f.instr.opcode = f.opcode := by
  intro g hg f hf
  fin_cases hg <;> fin_cases hf <;> exact ⟨rfl, rfl⟩

/-- No operand in memory: an immediate, accumulator or relative mode, or none (R153 to R155, R165). -/
def WithoutMemory (m : Mode) : Prop := m = .imm ∨ m = .acc ∨ m = .rel

/-- The accesses of an instruction by its class, where it is executed from `s` to `t`. -/
def Accesses (i : Instr) (s t : State) : Prop :=
  (∀ m : MemOperand, i.operand = .mem m →
    ((entryOf i.opcode).cls = .read →
      t.trace = (effectiveAddress m s).st.trace ++ [.read (effectiveAddress m s).addr]) ∧
    ((entryOf i.opcode).cls = .write →
      ∃ v, t.trace = (effectiveAddress m s).st.trace ++ [.write (effectiveAddress m s).addr v]) ∧
    ((entryOf i.opcode).cls = .rmw →
      ∃ v, t.trace = (effectiveAddress m s).st.trace ++
        [.read (effectiveAddress m s).addr, .write (effectiveAddress m s).addr v])) ∧
  (WithoutMemory (entryOf i.opcode).mode → t.trace = s.trace)

section
variable {i : Instr} {s t : State}

/-- An entry with a class has a memory mode (R171). -/
theorem not_withoutMemory_of_class : ∀ op : Byte, (entryOf op).cls ≠ .none → ¬WithoutMemory (entryOf op).mode := by
  unfold WithoutMemory
  decide

theorem not_withoutMemory_of_stackOpcode : ∀ op ∈ stackOpcodes, ¬WithoutMemory (entryOf op).mode := by
  unfold WithoutMemory
  decide

theorem accesses_of_classless (hcls : (entryOf i.opcode).cls = .none)
    (h : WithoutMemory (entryOf i.opcode).mode → t.trace = s.trace) : Accesses i s t := by
  refine ⟨fun m _ => ?_, h⟩
  rw [hcls]
  exact ⟨nofun, nofun, nofun⟩

theorem Form.ReadsWithin.accesses {w : Writes} {f : Form Source} (h : f.ReadsWithin w s) (ho : f.ReadsItsOperand)
    (ht : exec f.instr s = .next t) : Accesses f.instr s t := by
  obtain ⟨g, -, hexec⟩ := h
  obtain ⟨hoperand, hcls⟩ := ho
  rw [hexec] at ht
  cases ht
  unfold Form.reading
  cases ho : f.operand with
  | imm b =>
    rw [ho] at hcls
    exact accesses_of_classless hcls fun _ => rfl
  | mem m =>
    rw [ho] at hcls hoperand
    refine ⟨fun m' hm' => ?_, fun hmode => absurd hmode (not_withoutMemory_of_class _ (by rw [hcls]; nofun))⟩
    cases hoperand.symm.trans hm'
    rw [hcls]
    exact ⟨fun _ => rfl, nofun, nofun⟩

theorem Form.StoresWithin.accesses {w : Writes} {f : Form MemOperand} (h : f.StoresWithin w s)
    (hoperand : f.instr.operand = .mem f.operand) (hop : f.instr.opcode = f.opcode) (ht : exec f.instr s = .next t) :
    Accesses f.instr s t := by
  cases h with
  | storing v hcls hexec =>
    rw [hexec] at ht
    cases ht
    rw [← hop] at hcls
    refine ⟨fun m hm => ?_, fun hmode => absurd hmode (not_withoutMemory_of_class _ (by rw [hcls]; decide))⟩
    cases hoperand.symm.trans hm
    rw [hcls]
    exact ⟨nofun, fun _ => ⟨v, rfl⟩, nofun⟩
  | modifying new g hcls hw hexec =>
    rw [hexec] at ht
    cases ht
    rw [← hop] at hcls
    refine ⟨fun m hm => ?_, fun hmode => absurd hmode (not_withoutMemory_of_class _ (by rw [hcls]; decide))⟩
    cases hoperand.symm.trans hm
    rw [hcls]
    exact ⟨nofun, nofun, fun _ => ⟨_, List.append_assoc _ _ _⟩⟩

theorem RegistersWithin.trace {w : Writes} (h : RegistersWithin w s i) (ht : exec i s = .next t) : t.trace = s.trace := by
  obtain ⟨c, n, -, hexec⟩ := h
  rw [hexec] at ht
  cases ht
  rfl

/-- Every implemented instruction makes the accesses of its class. -/
theorem accesses_of_implemented (ht : exec i s = .next t)
    (himp : (entryOf i.opcode).isMarker s.params.extraUnofficial = false) : Accesses i s t := by
  obtain ⟨b1, b2, hi⟩ := eq_decodeOpcode i
  obtain ⟨hread, hstore, hnone⟩ := opcode_of_class _ (isMarker_true_of_not _ _ himp)
  have hextra : i.opcode ∈ 0xBB#8 :: optionalOpcodes → s.params.extraUnofficial = true := fun hop => by
    have hm := optional_of_opcode _ hop
    by_contra hfalse
    rw [Bool.not_eq_true] at hfalse
    rw [hfalse, hm] at himp
    cases himp
  have hmem {ops : List Byte} (hop : i.opcode ∈ ops) : i ∈ ops.map (decodeOpcode · b1 b2) :=
    hi ▸ List.mem_map_of_mem hop
  have hreading (hop : i.opcode ∈ readingOpcodes) : Accesses i s t := by
    obtain ⟨g, hg, f, hf, rfl⟩ := exists_form_of_mem_instrsOf (readingInstrs_eq b1 b2 ▸ hmem hop)
    exact (readingForms_readWithin b1 b2 s g hg f hf).accesses (readingForms_readTheirOperand b1 b2 g hg f hf) ht
  have hstoring (hop : i.opcode ∈ storingOpcodes) : Accesses i s t := by
    obtain ⟨g, hg, f, hf, rfl⟩ := exists_form_of_mem_instrsOf (storingInstrs_eq b1 b2 ▸ hmem hop)
    obtain ⟨hoperand, hopcode⟩ := storingForms_operand b1 b2 g hg f hf
    exact (storingForms_storeWithin b1 b2 s g hg f hf).accesses hoperand hopcode ht
  cases hcls : (entryOf i.opcode).cls with
  | read =>
    rcases hread hcls with hop | hop
    · obtain ⟨f, hf, rfl⟩ : ∃ f ∈ las b1 b2, f.instr = i := ⟨_, List.mem_singleton_self _, by rw [hi, hop]; rfl⟩
      exact (las_readsWithin (hextra (hop ▸ List.mem_cons_self)) f hf).accesses (las_readsItsOperand b1 b2 f hf) ht
    · exact hreading hop
  | write => exact hstoring (hstore (.inl hcls))
  | rmw => exact hstoring (hstore (.inr hcls))
  | none =>
    rcases hnone hcls with hop | hop | hop | hop
    · obtain ⟨g, hg, rfl⟩ := List.mem_map.mp (registerInstrs_eq b1 b2 ▸ hmem hop)
      exact accesses_of_classless hcls fun _ => (registerForms_within b1 b2 s g hg).trace ht
    · obtain ⟨g, hg, rfl⟩ := List.mem_map.mp (optionalInstrs_eq b1 b2 ▸ hmem hop)
      exact accesses_of_classless hcls fun _ =>
        (optionalForms_within (hextra (List.mem_cons_of_mem _ hop)) g hg).trace ht
    · exact accesses_of_classless hcls fun hmode => absurd hmode (not_withoutMemory_of_stackOpcode _ hop)
    · exact hreading hop

end

/-- Settles O9: by the group of forms the instruction is in. -/
theorem dataAccessesByClass : Obligations.DataAccessesByClass := by
  intro i s t ht himp
  obtain ⟨hmem, hnone⟩ := accesses_of_implemented ht himp
  refine ⟨hmem, fun ⟨b1, b2, w, hg⟩ => ?_, hnone⟩
  exact (registerForms_within b1 b2 s (i, w) hg).trace ht

end Sys2Proof.Rules
end

section
/-! PROOFS. What every step keeps (R600 to R611, R617): the six kinds of step, and for each of them what the services, the fetch
and the instruction keep. -/

namespace Sys2Proof.Rules

open Sys2Proof.Machine

/-! ## The kinds of step -/

/-- The state an instruction is executed in: after its fetch. -/
def fetchedState (s : State) : State := (fetchInstr (beginStep s)).2

/-- A step from `s` to `t`, by what it did. -/
inductive StepKind (s t : State) : Prop
  | paused (hp : s.paused = true) (ht : t = pausedStep s)
  | nmi (hp : s.paused = false) (hn : nmiDue s = true) (ht : t = finishStep true false (serviceNmi (beginStep s)))
  | irq (hp : s.paused = false) (hn : nmiDue s = false) (hi : irqDue s = true)
      (ht : t = finishStep false true (serviceIrq (beginStep s)))
  | stall (hp : s.paused = false) (hn : nmiDue s = false) (hi : irqDue s = false) (hs : 0 < s.stallCycles)
      (ht : t = finishStall (consumeStall (beginStep s)))
  | halt (hf : fetches s) (op : Byte) (hm : (entryOf op).isMarker s.params.extraUnofficial = true)
      (ht : t = haltIllegal op (fetchedState s))
  | instruction (hf : fetches s) (u : State) (hc : 2 ≤ u.stepCycles) (hk : Keeps (fetchedState s) u)
      (ht : t = finishStep false false u)

/-- Every step answers a next state, by one of the six. -/
theorem step_kind (s : State) : ∃ t, step s = .next t ∧ StepKind s t := by
  rcases step_cases s with ⟨hp, h⟩ | ⟨hp, hn, h⟩ | ⟨hp, hn, hi, h⟩ | ⟨hp, hn, hi, hs, h⟩ | ⟨hp, hn, hi, hs, h⟩
  · exact ⟨_, h, .paused hp rfl⟩
  · exact ⟨_, h, .nmi hp hn rfl⟩
  · exact ⟨_, h, .irq hp hn hi rfl⟩
  · exact ⟨_, h, .stall hp hn hi hs rfl⟩
  · have hk : Keeps (beginStep s) (fetchedState s) := (fetchInstr_keeps (beginStep s)).1
    obtain ⟨u, hu, heffect⟩ := exec_effect (fetchInstr (beginStep s)).1 (fetchedState s)
    rw [h.trans (congrArg finishInstr hu)]
    cases heffect with
    | completed hw hkeeps =>
      have hpaused : u.paused = false := hkeeps.paused.trans (hk.paused.trans hp)
      exact ⟨_, rfl, .instruction ⟨hp, hn, hi, hs⟩ u (two_le_exec hw hu) hkeeps (by rw [hpaused]; rfl)⟩
    | halted hw hhalt =>
      subst hhalt
      refine ⟨_, rfl, .halt ⟨hp, hn, hi, hs⟩ (fetchInstr (beginStep s)).1.opcode ?_ rfl⟩
      rw [isMarker_eq_not_wellFormed, ← show (fetchedState s).params = s.params from hk.params, hw]
      rfl

theorem StepKind.of_step {s t : State} (h : step s = .next t) : StepKind s t := by
  obtain ⟨u, hu, hkind⟩ := step_kind s
  rw [hu] at h
  cases h
  exact hkind

theorem fetchedState_keeps (s : State) : Keeps (beginStep s) (fetchedState s) := (fetchInstr_keeps (beginStep s)).1

theorem fetchedState_readsOnly (s : State) : ReadsOnly (beginStep s) (fetchedState s) := (fetchInstr_keeps (beginStep s)).2

/-- Settles O34: services and a stall answer a next state outright, an instruction by executing or by the halt. -/
theorem everyStepAnswersNext : Obligations.EveryStepAnswersNext := fun s => by
  obtain ⟨t, ht, -⟩ := step_kind s
  exact ⟨t, ht⟩

/-! ## The invariant -/

/-- Settles O35: every part of a step keeps the invariant. -/
theorem stepKeepsTheInvariant : Obligations.StepKeepsTheInvariant := by
  intro s t hinv hstep
  have hbegin : (beginStep s).Inv := beginStep_inv hinv
  have hfetched : (fetchedState s).Inv := (fetchedState_keeps s).inv hbegin
  cases StepKind.of_step hstep with
  | paused _ ht => exact ht ▸ hbegin
  | nmi _ _ ht => exact ht ▸ finishStep_inv _ _ (serviceNmi_inv hbegin)
  | irq _ _ _ ht => exact ht ▸ finishStep_inv _ _ (serviceIrq_inv hbegin)
  | stall _ _ _ _ ht => exact ht ▸ finishStall_inv (s := consumeStall (beginStep s)) hbegin
  | halt _ _ _ ht => exact ht ▸ hfetched
  | instruction _ u _ hk ht => exact ht ▸ finishStep_inv _ _ (hk.inv hfetched)

/-- Settles O36: the fields of the reset state are compared with their bounds. -/
theorem resetMeetsTheInvariant : Obligations.ResetMeetsTheInvariant := by
  unfold Obligations.ResetMeetsTheInvariant
  decide

/-! ## What the host owns -/

/-- What the session's installation makes depends on the cartridge and the mapper alone (R630, R641). -/
theorem installDevices_slots (s : State) : ∃ rs ws, ∀ t : State, t.cart = s.cart → t.mapper = s.mapper →
    installDevices t = t.withSlots rs ws := by
  obtain ⟨rs, ws, rs', ws', h⟩ := installDevices_table s.cart
  cases hm : s.mapper with
  | nrom => exact ⟨rs, ws, fun t hc ht => (h t hc).1 ht⟩
  | uxrom b => exact ⟨rs', ws', fun t hc ht => (h t hc).2 b ht⟩
  | contract windows installs inputs =>
    obtain ⟨rs, ws, h, -⟩ := installDevices_contract installs
    exact ⟨rs, ws, fun t _ ht => h t _ _ ht⟩

/-- The handlers stay as installed where neither they nor the mapper and the cartridge change. -/
theorem installed_congr {s t : State} (hc : t.cart = s.cart) (hm : t.mapper = s.mapper) (hr : t.readSlot = s.readSlot)
    (hw : t.writeSlot = s.writeSlot) (h : installDevices s = s) : installDevices t = t := by
  obtain ⟨rs, ws, hslots⟩ := installDevices_slots s
  exact installed_of_table (hslots s rfl rfl) (hslots t hc hm) hr hw h

/-- `t` differs from `s` by what the program and the devices may do: what a step leaves alone before its end. -/
structure HostKept (s t : State) : Prop where
  debugCfg : t.debugCfg = s.debugCfg
  slots : slotsKept s t
  cart : t.cart = s.cart
  params : t.params = s.params
  cycleTotal : t.cycleTotal = s.cycleTotal
  faults : t.faults = s.faults
  paused : t.paused = s.paused

theorem hostKept_of_keeps {s t : State} (h : Keeps s t) : HostKept s t :=
  ⟨h.debugCfg, ⟨fun hcalls => ⟨h.mapper.readSlot hcalls, h.mapper.writeSlot hcalls⟩, h.installed⟩, h.cart, h.params,
    h.cycleTotal, h.faults, h.paused⟩

theorem keeps_beginStep (s : State) : Keeps s (beginStep s) where
  mapper := MapperSame.kept ⟨rfl, rfl, rfl, rfl⟩
  paused := rfl
  debugCfg := rfl
  cycleTotal := rfl
  faults := rfl
  cart := rfl
  params := rfl
  inv := beginStep_inv
  installed := installed_congr rfl rfl rfl rfl
  nmi h := ⟨h, rfl⟩

theorem serviceNmi_hostKept (s : State) : HostKept s (serviceNmi s) where
  debugCfg := serviceNmi_debug s
  slots := ⟨fun hcalls => ⟨(serviceNmi_kept s).readSlot hcalls, (serviceNmi_kept s).writeSlot hcalls⟩, fun h =>
    (serviceNmi_keeps s).installed (installed_congr (s := s) rfl rfl rfl rfl h)⟩
  cart := serviceNmi_cart s
  params := serviceNmi_params s
  cycleTotal := serviceNmi_cycleTotal s
  faults := serviceNmi_faults s
  paused := serviceNmi_paused s

theorem serviceIrq_hostKept (s : State) : HostKept s (serviceIrq s) where
  debugCfg := serviceIrq_debug s
  slots := by
    refine ⟨(serviceIrq_mapper s).2, fun h => ?_⟩
    have hk := (keeps_enterException irqVector s.cpu.pc false s).trans (keeps_setCycles interruptCycles _)
    unfold serviceIrq
    generalize (enterException irqVector s.cpu.pc false s).setCycles interruptCycles = u at hk
    exact installed_congr (s := u) rfl rfl rfl rfl (hk.installed h)
  cart := serviceIrq_cart s
  params := serviceIrq_params s
  cycleTotal := serviceIrq_cycleTotal s
  faults := serviceIrq_faults s
  paused := serviceIrq_paused s

/-- Beginning a step is no change of what the host owns. -/
theorem HostKept.of_beginStep {s t : State} (h : HostKept (beginStep s) t) : HostKept s t where
  debugCfg := h.debugCfg
  slots := ⟨h.slots.1, fun hs => h.slots.2 (installed_congr (s := s) rfl rfl rfl rfl hs)⟩
  cart := h.cart
  params := h.params
  cycleTotal := h.cycleTotal
  faults := h.faults
  paused := h.paused

/-- The end of a step counts it and may pause. -/
theorem HostKept.finishStep {s u : State} (h : HostKept s u) (nmi irq : Bool) :
    let t := Machine.finishStep nmi irq u
    t.debugCfg = s.debugCfg ∧ slotsKept s t ∧ t.cart = s.cart ∧ t.params = s.params ∧
      t.cycleTotal = s.cycleTotal + t.stepCycles ∧ t.faults = s.faults ∧ (s.paused = true → t.paused = true) := by
  refine ⟨h.debugCfg, ⟨h.slots.1, fun hs => ?_⟩, h.cart, h.params, ?_, h.faults, fun hp => ?_⟩
  · exact installed_congr (s := u) rfl rfl rfl rfl (h.slots.2 hs)
  · rw [finishStep_cycleTotal, h.cycleTotal, finishStep_stepCycles]
  · rw [finishStep_paused, h.paused, hp, Bool.true_or]

/-- Settles O37: a service or an instruction keeps what the host owns, and the end of the step counts it. -/
theorem stepLeavesHostStateAlone : Obligations.StepLeavesHostStateAlone := by
  intro s t hstep
  have hfetch : Keeps s (fetchedState s) := (keeps_beginStep s).trans (fetchedState_keeps s)
  cases StepKind.of_step hstep with
  | paused _ ht =>
    subst ht
    exact ⟨rfl, ⟨fun _ => ⟨rfl, rfl⟩, installed_congr (s := s) rfl rfl rfl rfl⟩, rfl, rfl, rfl, .inl rfl,
      .inr fun _ => rfl, id⟩
  | nmi _ _ ht =>
    have hhost := (serviceNmi_hostKept (beginStep s)).of_beginStep
    have hmask := (serviceNmi_kept (beginStep s)).irqRequest
    generalize serviceNmi (beginStep s) = u at *
    subst ht
    obtain ⟨hdebug, hslots, hcart, hparams, hcycles, hfaults, hpaused⟩ := hhost.finishStep true false
    exact ⟨hdebug, hslots, hcart, hparams, hcycles, .inl hfaults, .inr hmask, hpaused⟩
  | irq _ _ hi ht =>
    have hhost := (serviceIrq_hostKept (beginStep s)).of_beginStep
    have hmask := serviceIrq_irqRequest (beginStep s)
    generalize serviceIrq (beginStep s) = u at *
    subst ht
    obtain ⟨hdebug, hslots, hcart, hparams, hcycles, hfaults, hpaused⟩ := hhost.finishStep false true
    exact ⟨hdebug, hslots, hcart, hparams, hcycles, .inl hfaults, .inl ⟨hmask, hi⟩, hpaused⟩
  | stall _ _ _ _ ht =>
    subst ht
    exact ⟨rfl, ⟨fun _ => ⟨rfl, rfl⟩, installed_congr (s := s) rfl rfl rfl rfl⟩, rfl, rfl, rfl, .inl rfl,
      .inr fun _ => rfl, id⟩
  | halt _ op hm ht =>
    subst ht
    obtain ⟨hdebug, hslots, hcart, hparams, hcycles, hfaults, -⟩ := hostKept_of_keeps hfetch
    have hcpu : (fetchedState s).cpu = s.cpu := (fetchedState_readsOnly s).cpu
    refine ⟨hdebug, ⟨hslots.1, fun hs => ?_⟩, hcart, hparams, hcycles, .inr ⟨op, ?_, rfl, hcpu, rfl, hm⟩,
      .inr hfetch.mapper.irqRequest, fun _ => rfl⟩
    · exact installed_congr (s := fetchedState s) rfl rfl rfl rfl (hslots.2 hs)
    · rw [haltIllegal, hfaults, hcpu]
  | instruction _ u _ hk ht =>
    subst ht
    have hk := hfetch.trans hk
    obtain ⟨hdebug, hslots, hcart, hparams, hcycles, hfaults, hpaused⟩ := (hostKept_of_keeps hk).finishStep false false
    exact ⟨hdebug, hslots, hcart, hparams, hcycles, .inl hfaults, .inr hk.mapper.irqRequest, hpaused⟩

/-! ## The countdown of an NMI -/

/-- Settles O42: the NMI is pending with a delay of 2 through the step, which counts down at least two cycles. -/
theorem nmiIsDueAtTheNextStep : Obligations.NmiIsDueAtTheNextStep := by
  intro s t hp hpending hstep hfaults hkind
  have hrequest : (requestNmi s).nmiPending = true ∧ (requestNmi s).nmiDelay = 2 := by
    rw [requestNmi, hpending]; exact ⟨rfl, rfl⟩
  have hrest : (requestNmi s).paused = s.paused ∧ irqDue (requestNmi s) = irqDue s ∧
      (requestNmi s).stallCycles = s.stallCycles ∧ (requestNmi s).faults = s.faults := by
    rw [requestNmi, hpending]; exact ⟨rfl, rfl, rfl, rfl⟩
  generalize requestNmi s = r at *
  obtain ⟨hpend, hdelay⟩ := hrequest
  obtain ⟨hrp, hri, hrs, hrf⟩ := hrest
  rw [nmiDue_iff]
  cases StepKind.of_step hstep with
  | paused hp' _ => rw [hrp, hp] at hp'; cases hp'
  | nmi _ hn _ =>
    obtain ⟨-, hle⟩ := (nmiDue_iff r).mp hn
    omega
  | irq _ _ _ ht =>
    subst ht
    obtain ⟨hpend', hdelay'⟩ := serviceIrq_nmi (beginStep r) hpend
    rw [finishStep_nmiPending, finishStep_nmiDelay, hpend', hdelay', serviceIrq_stepCycles]
    simp [interruptCycles, hdelay]
  | stall _ hn hi hs ht =>
    subst ht
    have htwo : 2 ≤ r.stallCycles := by
      rcases hkind with hf | hirq | htwo
      · obtain ⟨-, -, -, hstall⟩ := hf; omega
      · rw [hri, hirq] at hi; cases hi
      · omega
    rw [finishStall_consumeStall_beginStep]
    simp only [hpend, hdelay, if_true, true_and]
    omega
  | halt _ op _ ht =>
    subst ht
    have hgrown : (fetchedState r).faults = s.faults := (fetchedState_keeps r).faults.trans hrf
    rw [haltIllegal, hgrown] at hfaults
    simp at hfaults
  | instruction _ u hc hk ht =>
    subst ht
    obtain ⟨hpend', hdelay'⟩ := ((fetchedState_keeps r).trans hk).nmi hpend
    rw [finishStep_nmiPending, finishStep_nmiDelay, hpend', hdelay', show (beginStep r).nmiDelay = 2 from hdelay]
    simp only [Bool.not_false, Bool.and_self, if_true, true_and]
    omega

/-! ## The debug configuration -/

/-- `u` is `t` under the debug configuration `d`, but for `paused`. -/
def SameUnderDebug (d : Debug) (t u : State) : Prop :=
  u.debugCfg = d ∧ { u with debugCfg := t.debugCfg, paused := t.paused } = t

theorem sameUnderDebug_setDebug (d : Debug) (t : State) : SameUnderDebug d t (setDebug d t) := ⟨rfl, rfl⟩

/-- The debug check at the end writes `paused` alone. -/
theorem sameUnderDebug_finishStep (nmi irq : Bool) (d : Debug) (t : State) :
    SameUnderDebug d (finishStep nmi irq t) (finishStep nmi irq (setDebug d t)) := ⟨rfl, rfl⟩

theorem sameUnderDebug_finishInstr (d : Debug) (t : State) : ∃ v w : State,
    finishInstr (.next t) = .next v ∧ finishInstr (.next (setDebug d t)) = .next w ∧ SameUnderDebug d v w := by
  cases hp : t.paused with
  | true => exact ⟨t, setDebug d t, by simp [finishInstr, hp],
      by simp [finishInstr, setDebug, hp], sameUnderDebug_setDebug d t⟩
  | false =>
    exact ⟨finishStep false false t, finishStep false false (setDebug d t), by simp [finishInstr, hp],
      by simp [finishInstr, setDebug, hp], sameUnderDebug_finishStep _ _ d t⟩

theorem blind_serviceNmi : Blind serviceNmi := fun d s => by
  have h := blind_enterException nmiVector s.cpu.pc false d { s with nmiPending := false, nmiDelay := 0 }
  unfold serviceNmi
  generalize enterException nmiVector s.cpu.pc false { s with nmiPending := false, nmiDelay := 0 } = t at *
  exact congrArg (State.setCycles interruptCycles) h

theorem blind_serviceIrq : Blind serviceIrq := fun d s => by
  have h := blind_enterException irqVector s.cpu.pc false d s
  simp only [serviceIrq, withRecords_cpu, h]
  generalize enterException irqVector s.cpu.pc false s = t
  rfl

theorem beginStep_setDebug (d : Debug) (s : State) : beginStep (setDebug d s) = setDebug d (beginStep s) := rfl

/-- Settles O38: the services, the fetch and the instruction commute with replacing the configuration; the check at the end alone
looks at it. -/
theorem debugStateIsInvisible : Obligations.DebugStateIsInvisible := by
  intro s d
  suffices h : ∃ t u, step s = .next t ∧ step (setDebug d s) = .next u ∧ SameUnderDebug d t u from h
  rcases step_cases s with ⟨hp, h⟩ | ⟨hp, hn, h⟩ | ⟨hp, hn, hi, h⟩ | ⟨hp, hn, hi, hs, h⟩ | ⟨hp, hn, hi, hs, h⟩
  · exact ⟨_, _, h, step_of_paused (s := setDebug d s) hp, sameUnderDebug_setDebug d (pausedStep s)⟩
  · refine ⟨_, _, h, step_of_nmi (s := setDebug d s) hp hn, ?_⟩
    rw [beginStep_setDebug, setDebug_eq_withRecords, blind_serviceNmi, ← setDebug_eq_withRecords]
    exact sameUnderDebug_finishStep true false d _
  · refine ⟨_, _, h, step_of_irq (s := setDebug d s) hp hn hi, ?_⟩
    rw [beginStep_setDebug, setDebug_eq_withRecords, blind_serviceIrq, ← setDebug_eq_withRecords]
    exact sameUnderDebug_finishStep false true d _
  · exact ⟨_, _, h, step_of_stall (s := setDebug d s) hp hn hi hs,
      sameUnderDebug_setDebug d (finishStall (consumeStall (beginStep s)))⟩
  · obtain ⟨u, hu, hu'⟩ := exec_setDebug (fetchInstr (beginStep s)).1 d (fetchInstr (beginStep s)).2
    obtain ⟨v, w, hv, hw, hsame⟩ := sameUnderDebug_finishInstr d u
    refine ⟨v, w, h.trans (by rw [hu, hv]), (step_of_fetch (s := setDebug d s) hp hn hi hs).trans ?_, hsame⟩
    rw [beginStep_setDebug, fetchInstr_setDebug, hu', hw]

end Sys2Proof.Rules
end

section
/-! PROOFS. Single steps (R600 to R611, R618, R706): the end of a step, interrupt services, and the steps of an instruction whose
bytes are plain memory. -/

namespace Sys2Proof.Rules

open Sys2Proof.Machine

/-! ## The end of a step -/

/-- Whether an access is watched, by its kind (R611). -/
theorem watched_iff (d : Debug) (tr : List BusAccess) : tr.any (BusAccess.watched d) = true ↔
    (∃ a : Word, BusAccess.read a ∈ tr ∧ a ∈ d.readWatch) ∨
    (∃ (a : Word) (v : Byte), BusAccess.write a v ∈ tr ∧ a ∈ d.writeWatch) := by
  simp only [List.any_eq_true]
  constructor
  · rintro ⟨access, hmem, hwatched⟩
    cases access with
    | read a => exact .inl ⟨a, hmem, List.contains_iff_mem.mp hwatched⟩
    | write a v => exact .inr ⟨a, v, hmem, List.contains_iff_mem.mp hwatched⟩
  · rintro (⟨a, hmem, hwatched⟩ | ⟨a, v, hmem, hwatched⟩)
    · exact ⟨_, hmem, List.contains_iff_mem.mpr hwatched⟩
    · exact ⟨_, hmem, List.contains_iff_mem.mpr hwatched⟩

/-- The debug check is that of R611. -/
theorem debugHit_iff (nmi irq : Bool) (t : State) : debugHit nmi irq t = true ↔ pauses nmi irq t := by
  simp only [debugHit, pauses, Bool.or_eq_true, Bool.and_eq_true, List.contains_iff_mem, watched_iff, or_assoc]

theorem finishStep_endsStep (nmi irq : Bool) {t : State} (hp : t.paused = false) :
    endsStep nmi irq t (finishStep nmi irq t) := by
  constructor
  · simp only [finishStep, debugCheck, account, Bool.and_eq_true, Bool.not_eq_true']
  · rw [finishStep_paused, hp, Bool.false_or]
    exact debugHit_iff nmi irq t

/-! ## Interrupt services -/

/-- Settles O40: each service is the entry of an exception with B = 0, and then the end of the step. -/
theorem interruptService : Obligations.InterruptService := by
  intro s hp entry
  have hentry (vector : Word) (u : State) :
      (enterException vector u.cpu.pc false u).setCycles interruptCycles = entry vector u := by
    rw [enterException_eq rfl rfl rfl rfl]
    simp only [entry, State.setCycles, interruptCycles]
  refine ⟨fun hpending hdelay => ⟨_, step_of_nmi hp ((nmiDue_iff s).mpr ⟨hpending, hdelay⟩), ?nmi⟩,
    fun hnot hrequest hi => ⟨_, step_of_irq hp ?due ((irqDue_iff s).mpr ⟨hrequest, hi⟩), ?irq⟩⟩
  case nmi =>
    have hservice := hentry 0xFFFA#16 { s with nmiPending := false, nmiDelay := 0, stepCycles := 0, trace := [] }
    have hend := finishStep_endsStep true false ((serviceNmi_paused (beginStep s)).trans hp)
    exact hservice ▸ hend
  case due => exact Bool.eq_false_iff.mpr fun hdue => hnot ((nmiDue_iff s).mp hdue)
  case irq =>
    have hservice := hentry 0xFFFE#16 { s with stepCycles := 0, trace := [] }
    have hend := finishStep_endsStep false true ((serviceIrq_paused (beginStep s)).trans hp)
    exact hservice ▸ hend

/-! ## A fetch from plain memory -/

/-- The state after the first `n` fetch reads of a step, all of plain memory. -/
def afterFetch (n : Nat) (s : State) : State :=
  { s with stepCycles := 0, trace := (List.range n).map fun k => .read (s.cpu.pc + BitVec.ofNat 16 k) }

theorem fetched_afterFetch {s : State} (n : Nat) (h : (s.readSlot[blockOf (s.cpu.pc + BitVec.ofNat 16 n)]).isPlain = true) :
    fetched (s.cpu.pc + BitVec.ofNat 16 n) (afterFetch n s) =
      ((busRead (s.cpu.pc + BitVec.ofNat 16 n) s).1, afterFetch (n + 1) s) := by
  have hbyte : (busRead (s.cpu.pc + BitVec.ofNat 16 n) (afterFetch n s)).1 = (busRead (s.cpu.pc + BitVec.ofNat 16 n) s).1 :=
    busRead_congr _ h rfl rfl rfl rfl rfl rfl
  rw [fetched, busRead_plain _ (afterFetch n s) h, hbyte]
  simp only [afterFetch, List.range_succ, List.map_append, List.map_cons, List.map_nil]

section
variable {s : State}

theorem fetched_opcode (h0 : (s.readSlot[blockOf s.cpu.pc]).isPlain = true) :
    fetched s.cpu.pc (beginStep s) = ((busRead s.cpu.pc s).1, afterFetch 1 s) := by
  have h := fetched_afterFetch (s := s) 0
  simp only [BitVec.add_zero] at h
  exact h h0

theorem fetchInstr_plain_bare (h0 : (s.readSlot[blockOf s.cpu.pc]).isPlain = true) {i : Instr}
    (hm : (entryOf (busRead s.cpu.pc s).1).isMarker s.params.extraUnofficial = false)
    (hform : (entryOf (busRead s.cpu.pc s).1).form = .bare i) : fetchInstr (beginStep s) = (i, afterFetch 1 s) := by
  have hop := fetched_opcode h0
  rw [fetchInstr_of_bare (s := beginStep s) (by rw [beginStep_cpu, hop]; exact hm) (by rw [beginStep_cpu, hop]; exact hform),
    beginStep_cpu, hop]

/-- The fetch from plain memory: the instruction that the bytes decode to, after the opcode's read and one for each operand
byte. -/
theorem fetchInstr_plain (h0 : (s.readSlot[blockOf s.cpu.pc]).isPlain = true)
    (h1 : (s.readSlot[blockOf (s.cpu.pc + 1#16)]).isPlain = true)
    (h2 : (s.readSlot[blockOf (s.cpu.pc + 2#16)]).isPlain = true)
    (hm : (entryOf (busRead s.cpu.pc s).1).isMarker s.params.extraUnofficial = false) :
    fetchInstr (beginStep s) =
      (decodeOpcode (busRead s.cpu.pc s).1 (busRead (s.cpu.pc + 1#16) s).1 (busRead (s.cpu.pc + 2#16) s).1,
        afterFetch (1 + (entryOf (busRead s.cpu.pc s).1).operandBytes) s) := by
  have hop := fetched_opcode h0
  have hm' : (entryOf (fetched (beginStep s).cpu.pc (beginStep s)).1).isMarker (beginStep s).params.extraUnofficial = false := by
    rw [beginStep_cpu, hop]; exact hm
  have hb1 := fetched_afterFetch 1 h1
  have hb2 := fetched_afterFetch 2 h2
  cases hform : (entryOf (busRead s.cpu.pc s).1).form with
  | bare i =>
    rw [fetchInstr_plain_bare h0 hm hform]
    simp only [decodeOpcode, Entry.operandBytes, hform]
  | byte f =>
    rw [fetchInstr_of_byte hm' (f := f) (by rw [beginStep_cpu, hop]; exact hform), beginStep_cpu, hop, hb1]
    simp only [decodeOpcode, Entry.operandBytes, hform]
  | word f =>
    rw [fetchInstr_of_word hm' (f := f) (by rw [beginStep_cpu, hop]; exact hform), beginStep_cpu, hop, hb1, hb2]
    simp only [decodeOpcode, Entry.operandBytes, hform]

/-- A step that executes an instruction, which does not halt. -/
theorem step_of_exec {i : Instr} {u t : State} (hf : fetches s) (hfetch : fetchInstr (beginStep s) = (i, u))
    (hexec : exec i u = .next t) (hp : t.paused = false) : step s = .next (finishStep false false t) := by
  obtain ⟨hpaused, hnmi, hirq, hstall⟩ := hf
  rw [step_of_fetch hpaused hnmi hirq hstall, hfetch, hexec, finishInstr, hp]
  rfl

/-- The number of operand bytes is that of the entry (R151). -/
theorem operand_bytes_length (i : Instr) : i.operand.bytes.length = (entryOf i.opcode).operandBytes := by
  obtain ⟨-, hgives, -⟩ := table_statement i
  unfold Entry.operandBytes
  cases hform : (entryOf i.opcode).form with
  | bare j => rw [hform] at hgives; rw [hgives.2]; rfl
  | byte f =>
    rw [hform] at hgives
    obtain ⟨⟨b, hi⟩, hbytes⟩ := hgives
    rw [← hi, (hbytes b).2]; rfl
  | word f =>
    rw [hform] at hgives
    obtain ⟨⟨w, hi⟩, hbytes⟩ := hgives
    rw [← hi, (hbytes w).2]; rfl

end

/-- Settles O33: the fetch gives the decoded instruction, which keeps the pause flag clear, and the step ends as every one. -/
theorem stepRunsTheDecodedInstruction : Obligations.StepRunsTheDecodedInstruction := by
  intro s i rest hf h0 h1 h2 hdecode hwf
  obtain ⟨rest', hdecode'⟩ := decode_of_three_bytes (busRead s.cpu.pc s).1 (busRead (s.cpu.pc + 1#16) s).1
    (busRead (s.cpu.pc + 2#16) s).1 []
  rw [hdecode] at hdecode'
  cases hdecode'
  have hopcode := decodeOpcode_opcode (busRead s.cpu.pc s).1 (busRead (s.cpu.pc + 1#16) s).1 (busRead (s.cpu.pc + 2#16) s).1
  have hm : (entryOf (busRead s.cpu.pc s).1).isMarker s.params.extraUnofficial = false := by
    rw [← hopcode, isMarker_eq_not_wellFormed, hwf]; rfl
  have hfetch := fetchInstr_plain h0 h1 h2 hm
  rw [← hopcode, ← operand_bytes_length, hopcode] at hfetch
  generalize decodeOpcode (busRead s.cpu.pc s).1 (busRead (s.cpu.pc + 1#16) s).1 (busRead (s.cpu.pc + 2#16) s).1 = i at *
  obtain ⟨t, ht, heffect⟩ := exec_effect i (afterFetch (1 + i.operand.bytes.length) s)
  have hp : t.paused = false := by
    cases heffect with
    | completed _ hkeeps => exact hkeeps.paused.trans hf.1
    | halted hhalt _ => exact absurd (hhalt.symm.trans hwf) (by decide)
  exact ⟨t, _, ht, step_of_exec hf hfetch ht hp, finishStep_endsStep false false hp⟩

/-- The step of an unknown marker is the halt, after the read of its opcode (R608). -/
theorem step_of_marker {s : State} (hf : fetches s)
    (hm : (entryOf (busRead s.cpu.pc s).1).isMarker s.params.extraUnofficial = true) :
    step s = .next { (busRead s.cpu.pc s).2 with
      trace := [.read s.cpu.pc], paused := true, stepCycles := 0,
      faults := s.faults ++ [.illegalOpcode (busRead s.cpu.pc s).1 s.cpu.pc] } := by
  have hbegin := busRead_beginStep s.cpu.pc s
  have hread := busRead_readsOnly s.cpu.pc s
  have hop : fetched (beginStep s).cpu.pc (beginStep s) =
      ((busRead s.cpu.pc s).1, { (busRead s.cpu.pc s).2 with stepCycles := 0, trace := [.read s.cpu.pc] }) := by
    rw [beginStep_cpu, fetched, hbegin]; rfl
  obtain ⟨hpaused, hnmi, hirq, hstall⟩ := hf
  rw [step_of_fetch hpaused hnmi hirq hstall, fetchInstr_of_marker (by rw [hop]; exact hm), hop]
  have hopcode := decodeOpcode_opcode (busRead s.cpu.pc s).1 0#8 0#8
  rw [exec_marker ?halts, hopcode]
  case halts =>
    have hnot := isMarker_eq_not_wellFormed (decodeOpcode (busRead s.cpu.pc s).1 0#8 0#8) s.params.extraUnofficial
    rw [hopcode, hm] at hnot
    simpa [hread.params] using hnot
  simp only [finishInstr, haltIllegal, hread.cpu, hread.faults, if_true]

/-- Settles O41: the halt changes nothing that a fetch of the same byte looks at. -/
theorem illegalOpcodeHalt : Obligations.IllegalOpcodeHalt := by
  intro s hf hm op t
  refine ⟨step_of_marker hf hm, fun hplain => ?_⟩
  have hmem : t = { s with trace := [.read s.cpu.pc], paused := true, stepCycles := 0,
                           faults := s.faults ++ [.illegalOpcode op s.cpu.pc] } := by
    simp only [t, busRead_plain _ s hplain]
  clear_value t
  subst hmem
  obtain ⟨-, hnmi, hirq, hstall⟩ := hf
  let r : State := { s with trace := [.read s.cpu.pc], paused := false, stepCycles := 0,
                            faults := s.faults ++ [.illegalOpcode op s.cpu.pc] }
  have hread : busRead s.cpu.pc r = (op, r) :=
    Prod.ext (busRead_congr (t := r) _ hplain rfl rfl rfl rfl rfl rfl) (busRead_plain _ r hplain)
  have hstep := step_of_marker (s := r) ⟨rfl, hnmi, hirq, hstall⟩ (by rw [hread]; exact hm)
  rw [hread] at hstep
  exact hstep

/-! ## No latency of the interrupt mask -/

/-- Settles O43: the instruction writes I and nothing that stands before the next test. -/
theorem interruptMaskHasNoLatency : Obligations.InterruptMaskHasNoLatency := by
  intro s hf hplain
  obtain ⟨-, -, -, -, -, hcli, -, hsei, -⟩ := flagInstructions 0#8 0#8 (afterFetch 1 s)
  refine ⟨fun hop => ?cli, fun hop => ?sei⟩
  case cli =>
    have hfetch : fetchInstr (beginStep s) = (.cli, afterFetch 1 s) :=
      fetchInstr_plain_bare hplain (by rw [hop]; rfl) (by rw [hop]; rfl)
    exact ⟨_, step_of_exec hf hfetch hcli hf.1, rfl, fun m hm => (irqDue_iff _).mpr ⟨hm, rfl⟩⟩
  case sei =>
    have hfetch : fetchInstr (beginStep s) = (.sei, afterFetch 1 s) :=
      fetchInstr_plain_bare hplain (by rw [hop]; rfl) (by rw [hop]; rfl)
    exact ⟨_, step_of_exec hf hfetch hsei hf.1, rfl, fun m => Bool.and_false _⟩

end Sys2Proof.Rules
end

section
/-! PROOFS. The stack in RAM (R17, R44, R102): what a pull gives after pushes, and that RTI and RTS undo an entry and a call. -/

namespace Sys2Proof.Rules

open Sys2Proof.Machine

/-! ## Stack bytes -/

/-- Page 1 is RAM. -/
structure RamStack (s : State) : Prop where
  read : s.readSlot[(0 : Fin 8)] = .ram
  write : s.writeSlot[(0 : Fin 8)] = .ram
  wf : s.ram.wf = true

/-- The stack byte that S names. -/
def stackByte (sp : Byte) (s : State) : Byte := s.ram.read (ramIndex (page1 sp))

theorem ramIndex_eq (a : Word) : ramIndex a = a.toNat % 2048 := by
  rw [ramIndex, BitVec.toNat_and]
  exact Nat.and_two_pow_sub_one_eq_mod a.toNat 11

theorem ramIndex_page1_ne {p q : Byte} (h : p ≠ q) : ramIndex (page1 p) ≠ ramIndex (page1 q) := by
  intro heq
  apply h
  apply BitVec.eq_of_toNat_eq
  simp only [ramIndex_eq, page1, BitVec.toNat_ofNat] at heq
  omega

section
variable {s : State} (h : RamStack s)
include h

theorem RamStack.withCpu (c : Cpu) (n : Nat) : RamStack { s with cpu := c, stepCycles := n } := ⟨h.read, h.write, h.wf⟩

theorem RamStack.fetched (a : Word) : RamStack (Rules.fetched a s).2 where
  read := by rw [(fetched_readsOnly a s).readSlot]; exact h.read
  write := by rw [(fetched_readsOnly a s).writeSlot]; exact h.write
  wf := by rw [(fetched_readsOnly a s).ram]; exact h.wf

theorem RamStack.pulled : RamStack (Rules.pulled s).2 := (h.withCpu _ _).fetched _

theorem busWrite_page1 (sp v : Byte) :
    busWrite (page1 sp) v s = { s with ram := s.ram.write (ramIndex (page1 sp)) v } := by
  have hslot : s.writeSlot[blockOf (page1 sp)] = .ram := by simp only [blockOf_page1]; exact h.write
  simp only [busWrite, hslot]

theorem RamStack.pushed (v : Byte) : RamStack (Rules.pushed v s) where
  read := by simp only [Rules.pushed, written, busWrite_page1 h]; exact h.read
  write := by simp only [Rules.pushed, written, busWrite_page1 h]; exact h.write
  wf := by
    simp only [Rules.pushed, written, busWrite_page1 h]
    exact Memory.wf_write _ _ _ h.wf

theorem stackByte_pushed_same (v : Byte) : stackByte s.cpu.sp (Rules.pushed v s) = v := by
  simp only [stackByte, Rules.pushed, written, busWrite_page1 h]
  exact Memory.read_write_same _ _ _ h.wf

theorem stackByte_pushed_other {p : Byte} (hp : p ≠ s.cpu.sp) (v : Byte) :
    stackByte p (Rules.pushed v s) = stackByte p s := by
  simp only [stackByte, Rules.pushed, written, busWrite_page1 h]
  exact Memory.read_write_other _ _ _ _ (ramIndex_page1_ne hp)

theorem pulled_fst : (Rules.pulled s).1 = stackByte (s.cpu.sp + 1#8) s := by
  have hslot : s.readSlot[blockOf (page1 (s.cpu.sp + 1#8))] = .ram := by simp only [blockOf_page1]; exact h.read
  simp only [Rules.pulled, Rules.fetched, busRead, hslot, stackByte]

end

theorem stackByte_fetched (p : Byte) (a : Word) (s : State) : stackByte p (fetched a s).2 = stackByte p s := by
  rw [stackByte, (fetched_readsOnly a s).ram, stackByte]

theorem stackByte_pulled (p : Byte) (s : State) : stackByte p (pulled s).2 = stackByte p s := stackByte_fetched p _ _

theorem ramStack_of_inv {s : State} (hinv : s.Inv) (hr : s.readSlot[(0 : Fin 8)] = .ram)
    (hw : s.writeSlot[(0 : Fin 8)] = .ram) : RamStack s := by
  obtain ⟨hram, -⟩ := hinv
  exact ⟨hr, hw, Memory.ok_wf hram⟩

/-- The two bytes of a pushed address, pulled again. -/
theorem word_of_bytes (w : Word) :
    256 * (BitVec.ofNat 8 (w.toNat / 256)).toNat + (BitVec.ofNat 8 w.toNat).toNat = w.toNat := by
  have hw := w.isLt
  simp only [BitVec.toNat_ofNat]
  omega

/-! ## After pushes -/

section
variable {s : State} (h : RamStack s)
include h

theorem stackByte_pushed_two (v v' : Byte) :
    stackByte s.cpu.sp (Rules.pushed v' (Rules.pushed v s)) = v ∧
      stackByte (s.cpu.sp - 1#8) (Rules.pushed v' (Rules.pushed v s)) = v' := by
  have hcpu := pushed_cpu v s
  constructor
  · rw [stackByte_pushed_other (h.pushed v) (by rw [hcpu]; bv_omega), stackByte_pushed_same h]
  · have hsame := stackByte_pushed_same (h.pushed v) v'
    rwa [hcpu] at hsame

theorem stackByte_pushed_three (v v' v'' : Byte) :
    let u := Rules.pushed v'' (Rules.pushed v' (Rules.pushed v s))
    stackByte s.cpu.sp u = v ∧ stackByte (s.cpu.sp - 1#8) u = v' ∧ stackByte (s.cpu.sp - 2#8) u = v'' := by
  intro u
  have hcpu : (Rules.pushed v' (Rules.pushed v s)).cpu.sp = s.cpu.sp - 2#8 := by
    rw [pushed_cpu, pushed_cpu]; bv_omega
  have h2 := (h.pushed v).pushed v'
  obtain ⟨hfirst, hsecond⟩ := stackByte_pushed_two h v v'
  refine ⟨?_, ?_, ?_⟩
  · exact (stackByte_pushed_other h2 (by rw [hcpu]; bv_omega) v'').trans hfirst
  · exact (stackByte_pushed_other h2 (by rw [hcpu]; bv_omega) v'').trans hsecond
  · rw [← hcpu]; exact stackByte_pushed_same h2 v''

/-- Two pulls, one after the other. -/
theorem pulled_pulled_fst : (Rules.pulled (Rules.pulled s).2).1 = stackByte (s.cpu.sp + 2#8) s := by
  rw [pulled_fst h.pulled, stackByte_pulled, pulled_cpu, BitVec.add_assoc]
  rfl

theorem pulled_pulled_pulled_fst :
    (Rules.pulled (Rules.pulled (Rules.pulled s).2).2).1 = stackByte (s.cpu.sp + 3#8) s := by
  rw [pulled_pulled_fst h.pulled, stackByte_pulled, pulled_cpu, BitVec.add_assoc]
  rfl

end

/-- Settles O45: RTS pulls the two bytes that JSR pushed. -/
theorem returnUndoesCall : Obligations.ReturnUndoesCall := by
  intro w s hinv hr hw
  have h := ramStack_of_inv hinv hr hw
  obtain ⟨-, -, -, hjsr, -⟩ := jumpsAndReturns (loByte w) (hiByte w) s
  rw [joinBytes_bytes] at hjsr
  let ret := s.cpu.pc + 2#16
  let t : State := { pushed (BitVec.ofNat 8 ret.toNat) (pushed (BitVec.ofNat 8 (ret.toNat / 256)) s) with
    cpu := { s.cpu with sp := s.cpu.sp - 2#8, pc := w }, stepCycles := 6 }
  obtain ⟨-, -, -, -, -, hrts, -⟩ := jumpsAndReturns 0#8 0#8 t
  refine ⟨t, _, hjsr, hrts, rfl, ?_⟩
  have ht : RamStack t := ((h.pushed _).pushed _).withCpu _ _
  obtain ⟨hfirst, hsecond⟩ := stackByte_pushed_two h (BitVec.ofNat 8 (ret.toNat / 256)) (BitVec.ofNat 8 ret.toNat)
  have hlo : (pulled t).1 = BitVec.ofNat 8 ret.toNat := by
    rw [pulled_fst ht, ← hsecond, show t.cpu.sp + 1#8 = s.cpu.sp - 1#8 by simp only [t]; bv_omega]
    rfl
  have hhi : (pulled (pulled t).2).1 = BitVec.ofNat 8 (ret.toNat / 256) := by
    rw [pulled_pulled_fst ht, ← hfirst, show t.cpu.sp + 2#8 = s.cpu.sp by simp only [t]; bv_omega]
    rfl
  have hpc : BitVec.ofNat 16 (ret.toNat + 1) = s.cpu.pc + 3#16 := by
    apply BitVec.eq_of_toNat_eq
    simp only [ret, BitVec.toNat_ofNat, BitVec.toNat_add]
    omega
  simp only [hlo, hhi, word_of_bytes, hpc, t, BitVec.sub_add_cancel]

/-! ## RTI -/

/-- The flags that a pull takes from a pushed status byte (R47 to R49). -/
theorem statusFlags_statusByte (b : Bool) (p : Flags) : statusFlags (statusByte b p) = { p with b := b, r := true } := by
  rw [← unpack_eq_statusFlags, ← pack_eq_statusByte, unpack_pack]

/-- Settles O44: RTI pulls the three bytes that the entry pushed, which the reads of the vector leave alone. -/
theorem returnUndoesEntry : Obligations.ReturnUndoesEntry := by
  intro vector ret b s hinv hr hw
  have h := ramStack_of_inv hinv hr hw
  let t := pushed (statusByte b s.cpu.p) (pushed (BitVec.ofNat 8 ret.toNat) (pushed (BitVec.ofNat 8 (ret.toNat / 256)) s))
  let lo := fetched vector { t with cpu := { t.cpu with p := { s.cpu.p with i := true } } }
  let hi := fetched (vector + 1#16) lo.2
  have hentry := enterException_eq (vector := vector) (ret := ret) (b := b) (s := s) (t := t) (lo := lo) (hi := hi) rfl rfl rfl rfl
  obtain ⟨hhigh, hlow, hstatus⟩ : stackByte s.cpu.sp t = _ ∧ stackByte (s.cpu.sp - 1#8) t = _ ∧
      stackByte (s.cpu.sp - 2#8) t = _ :=
    stackByte_pushed_three h (BitVec.ofNat 8 (ret.toNat / 256)) (BitVec.ofNat 8 ret.toNat) (statusByte b s.cpu.p)
  have hstack : RamStack hi.2 := ((((((h.pushed _).pushed _).pushed _).withCpu _ t.stepCycles).fetched _).fetched _)
  have hbytes (p : Byte) : stackByte p hi.2 = stackByte p t :=
    (stackByte_fetched p _ _).trans (stackByte_fetched p _ _)
  generalize enterException vector ret b s = e at *
  obtain ⟨-, -, -, -, -, -, -, hrti⟩ := jumpsAndReturns 0#8 0#8 e
  refine ⟨_, hrti, ?_⟩
  generalize hi.2 = m at *
  have he : RamStack e := hentry ▸ hstack.withCpu _ _
  have hsp : e.cpu.sp = s.cpu.sp - 3#8 := by rw [hentry]
  have hbyte (p : Byte) : stackByte p e = stackByte p t := by rw [← hbytes, hentry]; rfl
  have hsp1 : s.cpu.sp - 3#8 + 1#8 = s.cpu.sp - 2#8 := by bv_omega
  have hsp2 : s.cpu.sp - 3#8 + 2#8 = s.cpu.sp - 1#8 := by bv_omega
  have hsp3 : s.cpu.sp - 3#8 + 3#8 = s.cpu.sp := by bv_omega
  have hpc : BitVec.ofNat 16
      (256 * (BitVec.ofNat 8 (ret.toNat / 256)).toNat + (BitVec.ofNat 8 ret.toNat).toNat) = ret := by
    rw [word_of_bytes, BitVec.ofNat_toNat, BitVec.setWidth_eq]
  simp only [pulled_fst he, pulled_pulled_fst he, pulled_pulled_pulled_fst he, hbyte, hsp, hsp1, hsp2, hsp3, hstatus, hlow,
    hhigh, hpc, statusFlags_statusByte]
  rw [hentry]

end Sys2Proof.Rules
end

section
/-! PROOFS. The bus and the host's requests (R101 to R105, R115, R612 to R615, R700): memory after a write, the table of handlers,
the request mask and the reset. -/

namespace Sys2Proof.Rules

open Sys2Proof.Machine

/-! ## Memory after a write -/

theorem blockOf_of_lt {a : Word} (h : a.toNat < 8192) : blockOf a = 0 := by
  apply Fin.ext
  simp only [blockOf, Fin.val_zero]
  omega

/-- Two addresses of the RAM window that agree modulo its size lead to the same byte (R115, R631). -/
theorem ramWindow_places {w a : Word} {s : State} (hr : s.readSlot[(0 : Fin 8)] = .ram) (hw : s.writeSlot[(0 : Fin 8)] = .ram)
    (hlw : w.toNat < 8192) (hla : a.toNat < 8192) (hmod : w.toNat % 2048 = a.toNat % 2048) :
    writePlace w s = some (.ram (ramIndex w)) ∧ readPlace a s = writePlace w s := by
  have hwslot : s.writeSlot[blockOf w] = .ram := by simp only [blockOf_of_lt hlw]; exact hw
  have hrslot : s.readSlot[blockOf a] = .ram := by simp only [blockOf_of_lt hla]; exact hr
  have hindex : ramIndex w = ramIndex a := by rw [ramIndex_eq, ramIndex_eq, hmod]
  simp only [writePlace, readPlace, hwslot, hrslot, hindex, and_self]

/-- Settles O46: a read of the written byte gives the value, and mirrors are one byte. -/
theorem readAfterWrite : Obligations.ReadAfterWrite := by
  intro w a v s hinv
  refine ⟨fun hw hp => busRead_busWrite_same w a v s hinv hw hp, fun ha => (busWrite_sameAt ha).byte,
    fun hr hw hlw hla hmod => ?mirror⟩
  case mirror =>
    obtain ⟨hplace, hsame⟩ := ramWindow_places hr hw hlw hla hmod
    exact busRead_busWrite_same w a v s hinv (by rw [hplace]; exact Option.some_ne_none _) hsame

/-! ## The table of handlers -/

theorem installRange_getElem (first last : Word) (h : Handler) (slots : Vector Handler 8) (k : Fin 8) :
    (installRange first last h slots)[k] =
      if first.toNat / 8192 ≤ k.val ∧ k.val ≤ last.toNat / 8192 then h else slots[k] := by
  simp only [installRange, Fin.getElem_fin, Vector.getElem_ofFn, Fin.eta]
  rfl

/-- Settles O47: clearing and installing act slot by slot. -/
theorem installingHandlers : Obligations.InstallingHandlers := by
  intro first last a h v s k
  refine ⟨?readCleared, ?writeCleared, installRange_getElem first last h _ k, rfl, installRange_getElem first last h _ k, rfl,
    fun hslot => ?read, fun hslot => ?write⟩
  case readCleared => simp [clearMemoryMap]
  case writeCleared => simp [clearMemoryMap]
  case read => simp only [busRead, hslot]
  case write => simp only [busWrite, hslot]

/-! ## Requests -/

/-- The bit of a source is the one of its number (R59). -/
theorem bit_getLsbD : ∀ (q : IrqSource) (k : Nat), k < 3 → q.bit.getLsbD k = decide (k = sourceNumber q) := by
  intro q k hk
  interval_cases k <;> cases q <;> rfl

theorem assertIrq_getLsbD (q : IrqSource) (s : State) {k : Nat} (hk : k < 3) :
    (assertIrq q s).irqRequest.getLsbD k = (s.irqRequest.getLsbD k || decide (k = sourceNumber q)) := by
  simp only [assertIrq, BitVec.getLsbD_or, bit_getLsbD q k hk]

theorem withdrawIrq_getLsbD (q : IrqSource) (s : State) {k : Nat} (hk : k < 3) :
    (withdrawIrq q s).irqRequest.getLsbD k = (s.irqRequest.getLsbD k && decide (k ≠ sourceNumber q)) := by
  simp only [withdrawIrq, BitVec.getLsbD_and, BitVec.getLsbD_not, bit_getLsbD q k hk, hk, decide_true, Bool.true_and,
    decide_not]

/-- The sources are numbered 0 to 2 (R10). -/
theorem ofNat?_eq {n : Nat} (h : n < 3) : ∃ q, IrqSource.ofNat? n = some q ∧ sourceNumber q = n := by
  interval_cases n
  · exact ⟨.apuFrame, rfl, rfl⟩
  · exact ⟨.external, rfl, rfl⟩
  · exact ⟨.disk, rfl, rfl⟩

theorem ofNat?_eq_none {n : Nat} (h : 3 ≤ n) : IrqSource.ofNat? n = none := by
  obtain ⟨m, rfl⟩ := Nat.exists_eq_add_of_le' h
  rfl

/-- Settles O57: the latch, the mask bit by bit, the refusal, and the sum of the stalls. -/
theorem requestOperations : Obligations.RequestOperations := by
  intro s n
  refine ⟨fun hp => ?latches, fun hp => ?pending, fun hn => ?source, fun hn => ?refused, fun m => rfl⟩
  case latches => rw [requestNmi, hp]; rfl
  case pending => rw [requestNmi, hp]; rfl
  case source =>
    obtain ⟨q, hq, hnumber⟩ := ofNat?_eq hn
    refine ⟨assertIrq q s, withdrawIrq q s, by rw [requestIrq, hq], by rw [clearIrqRequest, hq], rfl, rfl, fun k hk => ?_⟩
    rw [← hnumber]
    exact ⟨assertIrq_getLsbD q s hk, withdrawIrq_getLsbD q s hk⟩
  case refused =>
    rw [requestIrq, clearIrqRequest, ofNat?_eq_none hn]
    exact ⟨rfl, rfl⟩

/-! ## Reset -/

/-- Settles O56: the reads of the vector are plain, so the rest is as written out. -/
theorem resetProcedure : Obligations.ResetProcedure := by
  intro s hplain
  let c : Cpu := { s.cpu with sp := s.cpu.sp - 3#8, p := { s.cpu.p with i := true } }
  have hread (a : Word) (h : (s.readSlot[blockOf a]).isPlain = true) :
      busRead a { s with cpu := c } = ((busRead a s).1, { s with cpu := c }) := by rw [busRead_withCpu, busRead_plain a s h]
  have hlo := hread resetVector hplain
  have hhi := hread (resetVector + 1#16) hplain
  have hreset : cpuReset s = { s with
      cpu := { c with pc := joinBytes (busRead (resetVector + 1#16) s).1 (busRead resetVector s).1 }
      nmiPending := false, nmiDelay := 0, irqRequest := 0#3, stallCycles := 0 } := by
    rw [cpuReset, show (s.setSp (s.cpu.sp - 3#8)).setFlags { s.cpu.p with i := true } = { s with cpu := c } from rfl]
    simp only [hlo, hhi, State.setPc]
  rw [hreset, joinBytes_eq]
  rfl

end Sys2Proof.Rules
end

section
/-! PROOFS. The mappers (R641 to R644): the PRG-ROM offset each one reads an address at, and what the calls of a mapper of the
contract do one after the other. -/

namespace Sys2Proof.Rules

open Sys2Proof.Machine

/-! ## PRG-ROM offsets -/

theorem windowOffset_concat (windows : List PrgWindow) (w : PrgWindow) (a : Word) :
    windowOffset (windows ++ [w]) a =
      if w.first.toNat ≤ a.toNat ∧ a.toNat ≤ w.last.toNat then w.offset + (a.toNat - w.first.toNat)
      else windowOffset windows a := by
  rw [windowOffset, List.reverse_append, List.reverse_singleton, List.singleton_append, List.find?_cons]
  by_cases h : w.first.toNat ≤ a.toNat ∧ a.toNat ≤ w.last.toNat
  · rw [if_pos h, decide_eq_true h]
  · rw [if_neg h, decide_eq_false h]
    rfl

theorem offsetAt_eq (a : Word) (before : Nat) (w : PrgWindow) :
    w.offsetAt a before =
      if w.first.toNat ≤ a.toNat ∧ a.toNat ≤ w.last.toNat then w.offset + (a.toNat - w.first.toNat) else before := by
  by_cases h : w.first.toNat ≤ a.toNat ∧ a.toNat ≤ w.last.toNat
  · rw [if_pos h]
    exact (if_pos h).trans (by rw [BitVec.toNat_sub_of_le h.1])
  · rw [if_neg h]
    exact if_neg h

/-- The window chosen last over an address decides (R641). -/
theorem foldl_offsetAt_eq_windowOffset (a : Word) (windows : List PrgWindow) :
    windows.foldl (PrgWindow.offsetAt a) (a - 0x8000#16).toNat = windowOffset windows a := by
  induction windows using List.reverseRecOn with
  | nil =>
    simp only [List.foldl_nil, windowOffset, List.reverse_nil, List.find?_nil, BitVec.toNat_sub, BitVec.toNat_ofNat]
    omega
  | append_singleton windows w ih =>
    rw [List.foldl_append, List.foldl_cons, List.foldl_nil, ih, offsetAt_eq, windowOffset_concat]

theorem prgOffset_contract (windows : List PrgWindow) (installs : List HandlerInstall) (inputs : List MapperInput)
    (banks : Nat) (a : Word) :
    prgOffset (.contract windows installs inputs) banks a = windowOffset windows a % (16384 * banks) := by
  rw [prgOffset, foldl_offsetAt_eq_windowOffset]

theorem prgOffset_nrom {a : Word} (ha : 0x8000 ≤ a.toNat) (banks : Nat) :
    prgOffset .nrom banks a = (a.toNat - 0x8000) % (16384 * banks) := by
  have hsub : (a - 0x8000#16).toNat = a.toNat - 0x8000 := by bv_omega
  rw [prgOffset, hsub]

theorem prgOffset_uxrom {a : Word} (ha : 0x8000 ≤ a.toNat) (bank banks : Nat) :
    prgOffset (.uxrom bank) banks a =
      if a.toNat < 0xC000 then bank * 16384 + (a.toNat - 0x8000) else (banks - 1) * 16384 + (a.toNat - 0xC000) := by
  have hmask : (a &&& 0x3FFF#16).toNat = a.toNat % 16384 := by
    rw [BitVec.toNat_and]
    exact Nat.and_two_pow_sub_one_eq_mod a.toNat 14
  have hlt := a.isLt
  rw [prgOffset, hmask]
  split <;> omega

theorem prgRamIndex_eq (a : Word) : prgRamIndex a = a.toNat % 8192 := by
  rw [prgRamIndex, BitVec.toNat_and]
  exact Nat.and_two_pow_sub_one_eq_mod a.toNat 13

/-! ## A mapper's calls -/

/-- From `s` to `t` a mapper of the contract made `calls`. -/
structure AfterCalls (calls : List MapperCall) (s t : State) : Prop where
  mapper : ∀ windows installs inputs, s.mapper = .contract windows installs inputs →
    t.mapper = .contract (windows ++ windowsOf calls) (installs ++ installsOf calls) inputs
  irq : ∀ q, t.irqRequest.getLsbD (sourceNumber q) = irqAfter q calls (s.irqRequest.getLsbD (sourceNumber q))
  reader : ∀ k : Fin 8, t.readSlot[k] = readerAfter k (installsOf calls) s.readSlot[k]
  writer : ∀ k : Fin 8, t.writeSlot[k] = writerAfter k (installsOf calls) s.writeSlot[k]

theorem afterCalls_nil (s : State) : AfterCalls [] s s where
  mapper windows installs inputs h := by simp [h, windowsOf, installsOf]
  irq _ := rfl
  reader _ := rfl
  writer _ := rfl

theorem AfterCalls.trans {calls more : List MapperCall} {s t u : State} (h : AfterCalls calls s t) (k : AfterCalls more t u) :
    AfterCalls (calls ++ more) s u where
  mapper windows installs inputs hs := by
    rw [k.mapper _ _ _ (h.mapper windows installs inputs hs), windowsOf, windowsOf, windowsOf, installsOf, installsOf,
      installsOf, List.filterMap_append, List.filterMap_append, List.append_assoc, List.append_assoc]
  irq q := by rw [k.irq, h.irq, irqAfter, irqAfter, irqAfter, List.foldl_append]
  reader b := by
    rw [k.reader, h.reader, readerAfter, readerAfter, readerAfter, installsOf, installsOf, installsOf, List.filterMap_append,
      List.foldl_append]
  writer b := by
    rw [k.writer, h.writer, writerAfter, writerAfter, writerAfter, installsOf, installsOf, installsOf, List.filterMap_append,
      List.foldl_append]

theorem sourceNumber_lt (q : IrqSource) : sourceNumber q < 3 := by cases q <;> decide

theorem sourceNumber_inj {p q : IrqSource} : sourceNumber p = sourceNumber q ↔ p = q := by
  cases p <;> cases q <;> decide

/-- A call that installs nothing and requests nothing leaves the mask and the slots alone. -/
theorem afterCalls_of_eq {c : MapperCall} {s t : State} (hc : installsOf [c] = [])
    (hmask : ∀ source, c ≠ .requestIrq source ∧ c ≠ .clearIrqRequest source)
    (hm : ∀ windows installs inputs, s.mapper = .contract windows installs inputs →
      t.mapper = .contract (windows ++ windowsOf [c]) installs inputs)
    (hi : t.irqRequest = s.irqRequest) (hr : t.readSlot = s.readSlot) (hw : t.writeSlot = s.writeSlot) :
    AfterCalls [c] s t where
  mapper windows installs inputs h := by rw [hm _ _ _ h, hc, List.append_nil]
  irq q := by
    rw [hi, irqAfter, List.foldl_cons, List.foldl_nil, if_neg (hmask q).1, if_neg (hmask q).2]
  reader k := by rw [hr, hc]; rfl
  writer k := by rw [hw, hc]; rfl

/-- One call. -/
theorem mapperCall_afterCalls (s : State) (c : MapperCall) : AfterCalls [c] s (mapperCall s c) := by
  cases c with
  | install i =>
    cases i with
    | read first last h =>
      exact ⟨fun windows installs inputs hm => by
          simp [mapperCall, applyInstall, setReadMemory, hm, Mapper.addInstall, windowsOf, installsOf],
        fun _ => rfl, installRange_getElem first last h s.readSlot, fun _ => rfl⟩
    | write first last h =>
      exact ⟨fun windows installs inputs hm => by
          simp [mapperCall, applyInstall, setWriteMemory, hm, Mapper.addInstall, windowsOf, installsOf],
        fun _ => rfl, fun _ => rfl, installRange_getElem first last h s.writeSlot⟩
  | requestIrq source =>
    refine ⟨fun windows installs inputs hm => by simpa [mapperCall, assertIrq, windowsOf, installsOf] using hm, fun q => ?_,
      fun _ => rfl, fun _ => rfl⟩
    rw [mapperCall, assertIrq_getLsbD source s (sourceNumber_lt q)]
    by_cases h : source = q
    · simp [irqAfter, h]
    · simp [irqAfter, sourceNumber_inj, h, Ne.symm h]
  | clearIrqRequest source =>
    refine ⟨fun windows installs inputs hm => by simpa [mapperCall, withdrawIrq, windowsOf, installsOf] using hm, fun q => ?_,
      fun _ => rfl, fun _ => rfl⟩
    rw [mapperCall, withdrawIrq_getLsbD source s (sourceNumber_lt q)]
    by_cases h : source = q
    · simp [irqAfter, h]
    · simp [irqAfter, sourceNumber_inj, h, Ne.symm h]
  | setPrgWindow w =>
    exact afterCalls_of_eq rfl (fun _ => ⟨nofun, nofun⟩)
      (fun windows installs inputs hm => by simp [mapperCall, hm, Mapper.addWindow, windowsOf]) rfl rfl rfl
  | setChrBankOffset i offset =>
    exact afterCalls_of_eq rfl (fun _ => ⟨nofun, nofun⟩) (fun _ _ _ hm => hm.trans (by simp [windowsOf])) rfl rfl rfl
  | setMirrorMode d =>
    exact afterCalls_of_eq rfl (fun _ => ⟨nofun, nofun⟩) (fun _ _ _ hm => hm.trans (by simp [windowsOf])) rfl rfl rfl

theorem mapperCalls_afterCalls (calls : List MapperCall) : ∀ s : State, AfterCalls calls s (calls.foldl mapperCall s) := by
  induction calls with
  | nil => exact afterCalls_nil
  | cons c calls ih => exact fun s => (mapperCall_afterCalls s c).trans (ih _)

/-! ## Inputs of a mapper -/

section
variable {s : State} {windows : List PrgWindow} {installs : List HandlerInstall} {inputs : List MapperInput}

theorem mapperInput_of_contract (hm : s.mapper = .contract windows installs inputs) (e : MapperInput) :
    mapperInput e s = (Config.mapperCalls (inputs ++ [e])).foldl mapperCall
      { s with mapper := .contract windows installs (inputs ++ [e]) } := by
  simp only [mapperInput, hm]

/-- The two inputs of a mapper: a write, which is in the device history where it goes to a device of the mapper's own, and the
hook. -/
theorem input_eq_calls (hm : s.mapper = .contract windows installs inputs) {w : Word} {d : Byte} {line : Nat}
    {e : MapperInput} {t : State}
    (h : (e = .write w d ∧ reachesMapper w s ∧ t = busWrite w d s) ∨ (e = .hblank line ∧ t = onHblank line s)) :
    t = (Config.mapperCalls (inputs ++ [e])).foldl mapperCall { s with
      mapper := .contract windows installs (inputs ++ [e])
      deviceLog := if e = .write w d ∧ s.writeSlot[blockOf w] = .mapperDevice then s.deviceLog ++ [⟨w, some d⟩]
        else s.deviceLog } := by
  rcases h with ⟨rfl, hslot | hslot, rfl⟩ | ⟨rfl, rfl⟩
  · rw [if_neg (by rw [hslot]; exact fun h => nomatch h.2), ← mapperInput_of_contract hm]
    simp only [busWrite, hslot, mapperWrite, hm]
  · have hwrite : busWrite w d s = mapperInput (.write w d) (deviceWrite w d s) := by simp only [busWrite, hslot]
    rw [if_pos ⟨rfl, hslot⟩, hwrite]
    exact mapperInput_of_contract (s := deviceWrite w d s) hm _
  · rw [if_neg (fun h => nomatch h.1)]
    exact mapperInput_of_contract hm _

end

theorem busRead_cartridge {a : Word} {s : State} (h : s.readSlot[blockOf a] = .cartridge) :
    (busRead a s).1 = s.cart.prg.read (prgOffset s.mapper s.cart.prgBanks a) := by
  simp only [busRead, h]

theorem busRead_prgRam {a : Word} {s : State} (h : s.readSlot[blockOf a] = .prgRam) :
    (busRead a s).1 = s.prgRam.read (a.toNat % 8192) := by
  simp only [busRead, h, prgRamIndex_eq]

/-- Settles O48: by mapper; a mapper of the contract does what its calls do one after the other. -/
theorem mapperBanks : Obligations.MapperBanks := by
  intro w a d line s hbanks
  refine ⟨fun hm hw => ?nromWrite, fun hm hr ha => ?nromRead, fun bank hm hw => ?uxrom,
    fun windows installs inputs hm => ?contract⟩
  case nromWrite => simp only [busWrite, hw, mapperWrite, onHblank, mapperInput, hm, and_self]
  case nromRead => rw [busRead_cartridge hr, hm, prgOffset_nrom ha]
  case uxrom =>
    have hwrite : busWrite w d s = { s with mapper := .uxrom (d.toNat % s.cart.prgBanks) } := by
      simp only [busWrite, hw, mapperWrite, hm]
    refine ⟨by simp only [onHblank, mapperInput, hm], hwrite, fun hr ha => ?_⟩
    rw [hwrite, ← apply_ite s.cart.prg.read, ← prgOffset_uxrom ha]
    exact busRead_cartridge (s := { s with mapper := .uxrom (d.toNat % s.cart.prgBanks) }) hr
  case contract =>
    refine ⟨fun hr => by rw [busRead_cartridge hr, hm, prgOffset_contract], ?_⟩
    intro e t h calls
    let u : State := { s with
      mapper := .contract windows installs (inputs ++ [e])
      deviceLog := if e = .write w d ∧ s.writeSlot[blockOf w] = .mapperDevice then s.deviceLog ++ [⟨w, some d⟩]
        else s.deviceLog }
    have ht : t = calls.foldl mapperCall u := input_eq_calls hm h
    have hafter := mapperCalls_afterCalls calls u
    have honly := mapperCalls_only calls u
    rw [← ht] at hafter honly
    obtain ⟨hmapper, hirq, hreader, hwriter⟩ := hafter
    obtain ⟨_, _, _, _, _, honly⟩ := honly
    have hmapper := hmapper windows installs _ rfl
    have hprgRam : t.prgRam = s.prgRam := by rw [honly]
    have hcart : t.cart = s.cart := by rw [honly]
    refine ⟨by rw [honly], by rw [honly], hmapper, hirq, fun k => ⟨hreader k, hwriter k⟩, fun hr => ?_, fun hr => ?_⟩
    · rw [busRead_prgRam hr, hprgRam]
    · rw [busRead_cartridge hr, hmapper, hcart, prgOffset_contract]

end Sys2Proof.Rules
end

section
/-! PROOFS. The PPU's registers through the window (R632 to R634, R637, R638): the register an address selects, the event log, and
what each write leaves in the registers, in integer terms. -/

namespace Sys2Proof.Rules

open Sys2Proof.Machine

/-! ## Bits and integers -/

theorem extract_toNat {w : Nat} (start len : Nat) (x : BitVec w) :
    (x.extractLsb' start len).toNat = x.toNat / 2 ^ start % 2 ^ len := by
  rw [BitVec.extractLsb'_toNat, Nat.shiftRight_eq_div_pow]

theorem append_toNat {w v : Nat} (x : BitVec w) (y : BitVec v) : (x ++ y).toNat = x.toNat * 2 ^ v + y.toNat := by
  rw [BitVec.toNat_append, ← Nat.shiftLeft_add_eq_or_of_lt y.isLt, Nat.shiftLeft_eq]

/-- A bit of a word as an integer (R46). -/
theorem getLsbD_iff {w : Nat} (x : BitVec w) (k : Nat) : x.getLsbD k = decide (x.toNat / 2 ^ k % 2 = 1) := by
  rw [BitVec.getLsbD, Nat.testBit_eq_decide_div_mod_eq]

/-! ## The register window -/

/-- The register that an address modulo 8 selects (R632). -/
def regOf (k : Nat) : PpuReg :=
  match k with
  | 0 => .ctrl
  | 1 => .mask
  | 2 => .status
  | 3 => .oamAddr
  | 4 => .oamData
  | 5 => .scroll
  | 6 => .addr
  | _ => .data

theorem ofAddr_eq (a : Word) : PpuReg.ofAddr a = regOf (a.toNat % 8) := by
  have h : (a &&& 7#16).toNat = a.toNat % 8 := by
    rw [BitVec.toNat_and]
    exact Nat.and_two_pow_sub_one_eq_mod a.toNat 3
  rw [← h]
  rfl

theorem busWrite_window {a : Word} {s : State} (h : s.writeSlot[blockOf a] = .ppu) {k : Nat} (hk : a.toNat % 8 = k) (d : Byte) :
    busWrite a d s = ppuWrite (regOf k) d s := by
  simp only [busWrite, h, ofAddr_eq, hk]

theorem busRead_window {a : Word} {s : State} (h : s.readSlot[blockOf a] = .ppu) {k : Nat} (hk : a.toNat % 8 = k) :
    busRead a s = ppuRead (regOf k) a s := by
  simp only [busRead, h, ofAddr_eq, hk]

/-! ## The event log -/

/-- Whether a change is logged: rendering is enabled by MASK[3] or MASK[4], and the scanline is visible (R638). -/
theorem recordingActive_eq (p : Ppu) :
    p.recordingActive = decide (8 ≤ p.current.mask.toNat % 32 ∧ p.scanline < 240) := by
  have hmask : ∀ m : Byte, (m.getLsbD 3 || m.getLsbD 4) = decide (8 ≤ m.toNat % 32) := by decide
  have hline : p.scanline ≤ 239 ↔ p.scanline < 240 := by omega
  rw [Ppu.recordingActive, hmask, Bool.decide_and, decide_eq_decide.mpr hline]

/-- The event buffer after a change of `p` (R638). -/
def logged (p : Ppu) (c : PpuChange) : List PpuEvent :=
  if p.recordingActive then p.recording ++ [⟨p.scanline, c⟩] else p.recording

/-! ## What the writes leave in `t` and `x` -/

/-- `t` after a CTRL write (R634). -/
def ctrlT (d : Byte) (t : BitVec 15) : BitVec 15 := t.extractLsb' 12 3 ++ d.extractLsb' 0 2 ++ t.extractLsb' 0 10

/-- `t` after a SCROLL write at the stage `w` of the latch (R634). -/
def scrollT (w : Bool) (d : Byte) (t : BitVec 15) : BitVec 15 :=
  if w then d.extractLsb' 0 3 ++ t.extractLsb' 10 2 ++ d.extractLsb' 3 5 ++ t.extractLsb' 0 5
  else t.extractLsb' 5 10 ++ d.extractLsb' 3 5

/-- Fine X after a SCROLL write (R634). -/
def scrollX (w : Bool) (d : Byte) (x : BitVec 3) : BitVec 3 := if w then x else d.extractLsb' 0 3

/-- `t` after an ADDR write (R634). -/
def addrT (w : Bool) (d : Byte) (t : BitVec 15) : BitVec 15 :=
  if w then t.extractLsb' 8 7 ++ d else 0#1 ++ d.extractLsb' 0 6 ++ t.extractLsb' 0 8

section
variable (d : Byte) (t : BitVec 15)

theorem ctrlT_toNat : (ctrlT d t).toNat = t.toNat % 1024 + d.toNat % 4 * 1024 + t.toNat / 4096 * 4096 := by
  have ht := t.isLt
  simp only [ctrlT, append_toNat, extract_toNat]
  omega

theorem scrollT_first_toNat : (scrollT false d t).toNat = t.toNat / 32 * 32 + d.toNat / 8 := by
  have ht := t.isLt
  have hd := d.isLt
  simp only [scrollT, Bool.false_eq_true, if_false, append_toNat, extract_toNat]
  omega

theorem scrollT_second_toNat :
    (scrollT true d t).toNat = d.toNat % 8 * 4096 + t.toNat / 1024 % 4 * 1024 + d.toNat / 8 * 32 + t.toNat % 32 := by
  have hd := d.isLt
  simp only [scrollT, if_true, append_toNat, extract_toNat]
  omega

theorem addrT_first_toNat : (addrT false d t).toNat = d.toNat % 64 * 256 + t.toNat % 256 := by
  simp only [addrT, Bool.false_eq_true, if_false, append_toNat, extract_toNat, BitVec.toNat_ofNat]
  omega

theorem addrT_second_toNat : (addrT true d t).toNat = t.toNat / 256 * 256 + d.toNat := by
  have ht := t.isLt
  simp only [addrT, if_true, append_toNat, extract_toNat]
  omega

end

/-! ## The register writes -/

section
variable (d : Byte) (p : Ppu)

theorem writeCtrl_eq : p.writeCtrl d = { p with
    current := { p.current with ctrl := d, t := ctrlT d p.current.t }, recording := logged p (.ctrl d) } := by
  simp only [Ppu.writeCtrl, Ppu.log, logged]
  split <;> rfl

theorem writeMask_eq : p.writeMask d = { p with
    current := { p.current with mask := d }, recording := logged p (.mask d) } := by
  simp only [Ppu.writeMask, Ppu.log, logged]
  split <;> rfl

theorem setScroll_eq (t : BitVec 15) (x : BitVec 3) : Ppu.setScroll t x p = { p with
    current := { p.current with t := t, x := x }, recording := logged p (.scroll t x) } := by
  simp only [Ppu.setScroll, Ppu.log, logged]
  split <;> rfl

/-- A SCROLL write leaves the VRAM address and turns the latch over. -/
theorem writeScroll_eq : p.writeScroll d = { p with
    w := !p.w
    current := { p.current with t := scrollT p.w d p.current.t, x := scrollX p.w d p.current.x }
    recording := logged p (.scroll (scrollT p.w d p.current.t) (scrollX p.w d p.current.x)) } := by
  unfold Ppu.writeScroll
  cases hw : p.w <;> simp only [setScroll_eq] <;> rfl

/-- An ADDR write leaves fine X and turns the latch over; the second one copies `t` to the VRAM address. -/
theorem writeAddr_eq : p.writeAddr d = { p with
    w := !p.w
    v := if p.w then addrT p.w d p.current.t else p.v
    current := { p.current with t := addrT p.w d p.current.t }
    recording := logged p (.scroll (addrT p.w d p.current.t) p.current.x) } := by
  unfold Ppu.writeAddr
  cases hw : p.w <;> simp only [setScroll_eq] <;> rfl

end

section
variable {a : Word} {s : State} (h : s.writeSlot[blockOf a] = .ppu)
include h

theorem ctrlWrite_ppu (ha : a.toNat % 8 = 0) (d : Byte) : (busWrite a d s).ppu = s.ppu.writeCtrl d := by
  rw [busWrite_window h ha, regOf, ppuWrite]
  split
  · rw [requestNmi_eq]
  · rfl

theorem maskWrite_eq (ha : a.toNat % 8 = 1) (d : Byte) : busWrite a d s = { s with ppu := s.ppu.writeMask d } :=
  busWrite_window h ha d

theorem statusWrite_eq (ha : a.toNat % 8 = 2) (d : Byte) : busWrite a d s = s := busWrite_window h ha d

theorem oamAddrWrite_eq (ha : a.toNat % 8 = 3) (d : Byte) :
    busWrite a d s = { s with ppu := { s.ppu with oamAddr := d } } := busWrite_window h ha d

theorem oamDataWrite_eq (ha : a.toNat % 8 = 4) (d : Byte) : busWrite a d s = { s with ppu := s.ppu.writeOamData d } :=
  busWrite_window h ha d

theorem scrollWrite_eq (ha : a.toNat % 8 = 5) (d : Byte) : busWrite a d s = { s with ppu := s.ppu.writeScroll d } :=
  busWrite_window h ha d

theorem addrWrite_eq (ha : a.toNat % 8 = 6) (d : Byte) : busWrite a d s = { s with ppu := s.ppu.writeAddr d } :=
  busWrite_window h ha d

theorem dataWrite_eq (ha : a.toNat % 8 = 7) (d : Byte) : busWrite a d s = { s with ppu := s.ppu.writeData s.cart d } :=
  busWrite_window h ha d

end

/-- Settles O49: the integer value of `t` after each write, one write after the other. -/
theorem ppuWriteLatch : Obligations.PpuWriteLatch := by
  intro aC aS aA d1 d2 s hC hS hA haC haS haA p
  have haddr (d : Byte) (q : Ppu) : busWrite aA d { s with ppu := q } = { s with ppu := q.writeAddr d } :=
    addrWrite_eq (s := { s with ppu := q }) hA haA d
  have hscroll (d : Byte) (q : Ppu) : busWrite aS d { s with ppu := q } = { s with ppu := q.writeScroll d } :=
    scrollWrite_eq (s := { s with ppu := q }) hS haS d
  have haddr1 : busWrite aA d1 s = { s with ppu := p.writeAddr d1 } := haddr d1 p
  have hscroll1 : busWrite aS d1 s = { s with ppu := p.writeScroll d1 } := hscroll d1 p
  have hfirst := addrT_first_toNat d1 p.current.t
  refine ⟨fun hw => ⟨?addrAddr, ?scrollScroll, ?scrollAddr, ?addr⟩, ?addrW, ?scrollW, ?addrOnly, ?scrollOnly, ?ctrl⟩
  case addrAddr =>
    rw [haddr1, haddr]
    simp only [writeAddr_eq, hw, Bool.not_false, Bool.not_true, if_true, true_and, and_true]
    rw [addrT_second_toNat, hfirst]
    have hd := d2.isLt
    omega
  case scrollScroll =>
    rw [hscroll1, hscroll]
    simp only [writeScroll_eq, hw, Bool.not_false, Bool.not_true, true_and]
    refine ⟨?_, ?_⟩
    · simp only [scrollX, if_true, Bool.false_eq_true, if_false, extract_toNat]; omega
    · have hd := d1.isLt
      have hcoarse : (p.current.t.toNat / 32 * 32 + d1.toNat / 8) / 32 = p.current.t.toNat / 32 := by omega
      have hnametable : (p.current.t.toNat / 32 * 32 + d1.toNat / 8) / 1024 = p.current.t.toNat / 1024 := by
        rw [show 1024 = 32 * 32 by rfl, ← Nat.div_div_eq_div_mul, hcoarse, Nat.div_div_eq_div_mul]
      rw [scrollT_second_toNat, scrollT_first_toNat, hnametable]
      omega
  case scrollAddr =>
    rw [hscroll1, haddr]
    simp only [writeAddr_eq, writeScroll_eq, hw, Bool.not_false, Bool.not_true, if_true, true_and]
    rw [addrT_second_toNat, scrollT_first_toNat]
    have hd := d1.isLt
    omega
  case addr => rw [haddr1]; simp only [writeAddr_eq, hw, Bool.false_eq_true, if_false]
  case addrW => rw [haddr1]; simp only [writeAddr_eq]
  case scrollW => rw [hscroll1]; simp only [writeScroll_eq]
  case addrOnly => rw [haddr1]
  case scrollOnly => rw [hscroll1]
  case ctrl =>
    simp only [ctrlWrite_ppu hC haC, writeCtrl_eq, ctrlT_toNat, true_and]
    exact ⟨rfl, rfl, rfl, rfl⟩

/-! ## Logging -/

theorem log_recording {was p : Ppu} (c : PpuChange) (hr : p.recording = was.recording)
    (hs : p.scanline = was.scanline) : (Ppu.log was c p).recording = logged was c := by
  unfold Ppu.log logged
  split
  · rw [hr, hs]
  · exact hr

theorem log_current (was : Ppu) (c : PpuChange) (p : Ppu) : (Ppu.log was c p).current = p.current := by
  unfold Ppu.log
  split <;> rfl

/-- Settles O55: each write's event buffer is that of its equation. -/
theorem eventLog : Obligations.EventLog := by
  intro a d i offset s on logs t
  have hlogged (c : PpuChange) : logged s.ppu c = if on then s.ppu.recording ++ [⟨s.ppu.scanline, c⟩] else s.ppu.recording := by
    rw [logged, recordingActive_eq]
  refine ⟨fun h => ⟨fun ha => ?ctrl, fun ha => ?mask, fun ha => ?scrollOrAddr, fun ha => ?other⟩,
    ⟨?chr, ?chrCurrent⟩, ⟨?mirror, ?mirrorCurrent⟩⟩
  case ctrl => simp only [logs, t, ctrlWrite_ppu h ha, writeCtrl_eq, hlogged]
  case mask => simp only [logs, t, maskWrite_eq h ha, writeMask_eq, hlogged]
  case scrollOrAddr =>
    rcases ha with ha | ha
    · simp only [logs, t, scrollWrite_eq h ha, writeScroll_eq, hlogged]
    · simp only [logs, t, addrWrite_eq h ha, writeAddr_eq, hlogged]
  case other =>
    rcases ha with ha | ha | ha | ha
    · simp only [t, statusWrite_eq h ha]
    · simp only [t, oamAddrWrite_eq h ha]
    · simp only [t, oamDataWrite_eq h ha, Ppu.writeOamData]
    · simp only [t, dataWrite_eq h ha, Ppu.writeData, Ppu.advance, vramWrite]
      split <;> rfl
  case chr =>
    have h := log_recording (was := s.ppu)
      (p := { s.ppu with current := { s.ppu.current with chrBank := s.ppu.current.chrBank.set i offset } })
      (.chrBank i offset) rfl rfl
    exact h.trans (hlogged _)
  case chrCurrent => exact log_current _ _ _
  case mirror =>
    have h := log_recording (was := s.ppu) (p := { s.ppu with current := { s.ppu.current with mirror := d } }) (.mirror d) rfl rfl
    exact h.trans (hlogged _)
  case mirrorCurrent => exact log_current _ _ _

/-! ## The other registers -/

theorem status_toNat (p : Ppu) :
    p.status.toNat = 128 * p.vblank.toNat + 64 * p.spriteZero.toNat + 32 * p.overflow.toNat := by
  have h : ∀ v z o : Bool, (BitVec.ofBool v ++ BitVec.ofBool z ++ BitVec.ofBool o ++ 0#5).toNat =
      128 * v.toNat + 64 * z.toNat + 32 * o.toNat := by decide
  exact h p.vblank p.spriteZero p.overflow

section
variable {a : Word} {s : State} (h : s.readSlot[blockOf a] = .ppu)
include h

theorem statusRead_eq (ha : a.toNat % 8 = 2) :
    busRead a s = (s.ppu.status, { s with ppu := { s.ppu with vblank := false, w := false } }) := busRead_window h ha

/-- A register that can only be written answers as an undefined device does (R637). -/
theorem writeOnlyRead_eq (ha : a.toNat % 8 = 0 ∨ a.toNat % 8 = 1 ∨ a.toNat % 8 = 3 ∨ a.toNat % 8 = 5 ∨ a.toNat % 8 = 6) :
    busRead a s = deviceRead a s := by
  rcases ha with ha | ha | ha | ha | ha <;> exact busRead_window h ha

end

/-- Settles O52: by the register that the address selects. -/
theorem ppuRegisterAccess : Obligations.PpuRegisterAccess := by
  intro a d s
  refine ⟨fun h => ⟨fun ha => ?status, fun ha => busRead_window h ha, fun ha => ?writeOnly⟩, ?writes⟩
  case status =>
    have hread := statusRead_eq h ha
    rw [hread]
    refine ⟨status_toNat s.ppu, rfl, ?_⟩
    rw [statusRead_eq (s := { s with ppu := { s.ppu with vblank := false, w := false } }) h ha, status_toNat]
    have hz := Bool.toNat_le s.ppu.spriteZero
    have ho := Bool.toNat_le s.ppu.overflow
    simp only [Bool.toNat_false]
    omega
  case writeOnly =>
    rw [writeOnlyRead_eq h ha, deviceRead]
    exact ⟨rfl, List.length_append, rfl⟩
  case writes =>
    intro h t
    refine ⟨fun ha => ?ctrl, fun ha => ?mask, fun ha => statusWrite_eq h ha d, fun ha => oamAddrWrite_eq h ha d,
      fun ha hwf => ?oamData⟩
    case ctrl => simp only [t, ctrlWrite_ppu h ha, writeCtrl_eq]
    case mask => simp only [t, maskWrite_eq h ha, writeMask_eq, and_self]
    case oamData =>
      have hindex : s.ppu.oamAddr + 1#8 = BitVec.ofNat 8 (s.ppu.oamAddr.toNat + 1) := by
        rw [BitVec.ofNat_add, BitVec.ofNat_toNat, BitVec.setWidth_eq]
      simp only [t, oamDataWrite_eq h ha, Ppu.writeOamData, hindex, true_and]
      intro i
      by_cases hi : i = s.ppu.oamAddr.toNat
      · rw [if_pos hi, hi, Memory.read_write_same _ _ _ hwf]
      · rw [if_neg hi, Memory.read_write_other _ _ _ _ hi]

end Sys2Proof.Rules
end

section
/-! PROOFS. The video address space and DATA (R635, R636). -/

namespace Sys2Proof.Rules

open Sys2Proof.Machine

/-! ## The video address decode -/

theorem nametableIndex_eq (mirror : Byte) (a : BitVec 14) : nametableIndex mirror a =
    0x2000 + mirror.toNat / 4 ^ (a.toNat / 1024 % 4) % 4 * 1024 + a.toNat % 1024 := by
  have hmask (x : Byte) : (x &&& 3#8).toNat = x.toNat % 4 := by
    rw [BitVec.toNat_and]
    exact Nat.and_two_pow_sub_one_eq_mod x.toNat 2
  simp only [nametableIndex, extract_toNat, hmask, BitVec.toNat_ushiftRight, Nat.shiftRight_eq_div_pow, Nat.pow_mul]
  norm_num

/-- The palette byte of an address modulo 32: four background copies (R636). -/
theorem paletteIndex_eq (a : BitVec 14) :
    paletteIndex a = if a.toNat % 32 ∈ [16, 20, 24, 28] then a.toNat % 32 - 16 else a.toNat % 32 := by
  have hlow : a &&& 0x1F#14 = BitVec.ofNat 14 (a.toNat % 32) := by
    apply BitVec.eq_of_toNat_eq
    have hlow : (BitVec.ofNat 14 (a.toNat % 32)).toNat = a.toNat % 32 := by rw [BitVec.toNat_ofNat]; omega
    rw [BitVec.toNat_and, hlow]
    exact Nat.and_two_pow_sub_one_eq_mod a.toNat 5
  have hlt : a.toNat % 32 < 32 := Nat.mod_lt _ (by decide)
  unfold paletteIndex
  rw [hlow]
  generalize a.toNat % 32 = k at hlt
  revert k
  decide

theorem paletteIndex_lt (a : BitVec 14) : paletteIndex a < 32 := by
  rw [paletteIndex_eq]
  split <;> omega

section
variable {rom : Bool} {h : HStatus} {a : BitVec 14}

theorem videoTarget_nametable (hlow : 0x2000 ≤ a.toNat) (hhigh : a.toNat < 0x3F00) : videoTarget rom h a = .video
    (0x2000 + h.mirror.toNat / 4 ^ (a.toNat / 1024 % 4) % 4 * 1024 + a.toNat % 1024) := by
  rw [videoTarget, if_neg (by omega), if_pos hhigh, nametableIndex_eq]

theorem videoTarget_palette (ha : 0x3F00 ≤ a.toNat) : videoTarget rom h a = .video (0x3F00 + paletteIndex a) := by
  rw [videoTarget, if_neg (by omega), if_neg (by omega)]

theorem videoTarget_chrRam (ha : a.toNat < 0x2000) : videoTarget false h a = .video a.toNat := by
  rw [videoTarget, if_pos ha]
  rfl

theorem videoTarget_chrRom (ha : a.toNat < 0x2000) :
    videoTarget true h a = .chrRom (h.chrBank.toList.getD (a.toNat / 1024) 0 + a.toNat % 1024) := by
  have hbank : (a.extractLsb' 10 3).toNat = a.toNat / 1024 := by rw [extract_toNat]; omega
  rw [videoTarget, if_pos ha, if_pos rfl, extract_toNat 0 10]
  simp only [hbank]
  rw [List.getD_eq_getElem _ _ (by simp; omega), Vector.getElem_toList]
  norm_num

end

/-- Settles O51: by the range of the address. -/
theorem videoAddressDecode : Obligations.VideoAddressDecode := by
  intro rom h a
  refine ⟨videoTarget_nametable, fun ha => ?palette, fun ha => ⟨videoTarget_chrRam ha, videoTarget_chrRom ha⟩,
    fun i hi => ?inside, fun c d p hrom ha => ?ignored⟩
  case palette => rw [videoTarget_palette ha, paletteIndex_eq]
  case inside =>
    rcases Nat.lt_or_ge a.toNat 0x2000 with hlow | hlow
    · cases rom with
      | false =>
        rw [videoTarget_chrRam hlow] at hi
        cases hi
        omega
      | true => rw [videoTarget_chrRom hlow] at hi; cases hi
    · rcases Nat.lt_or_ge a.toNat 0x3F00 with hhigh | hhigh
      · rw [videoTarget_nametable hlow hhigh] at hi
        cases hi
        omega
      · have hindex := paletteIndex_lt a
        rw [videoTarget_palette hhigh] at hi
        cases hi
        omega
  case ignored => rw [vramWrite, hrom, videoTarget_chrRom ha]

/-! ## DATA -/

/-- How far DATA moves the VRAM address (R635). -/
def increment (p : Ppu) : Nat := if p.current.ctrl.toNat / 4 % 2 = 1 then 32 else 1

theorem advance_eq (p : Ppu) : p.advance = { p with v := BitVec.ofNat 15 (p.v.toNat + increment p) } := by
  have hbit : p.current.ctrl.getLsbD 2 = decide (p.current.ctrl.toNat / 4 % 2 = 1) := getLsbD_iff p.current.ctrl 2
  rw [Ppu.advance, hbit, increment, BitVec.ofNat_add, BitVec.ofNat_toNat, BitVec.setWidth_eq]
  by_cases h : p.current.ctrl.toNat / 4 % 2 = 1
  · rw [if_pos h, decide_eq_true h]; rfl
  · rw [if_neg h, decide_eq_false h]; rfl

/-- A store to video memory changes the array alone. -/
theorem vramWrite_eq (c : Cartridge) (a : BitVec 14) (d : Byte) (p : Ppu) :
    vramWrite c a d p = { p with vram := (vramWrite c a d p).vram } := by
  unfold vramWrite
  split <;> rfl

theorem writeData_eq (c : Cartridge) (d : Byte) (p : Ppu) : p.writeData c d =
    { vramWrite c (BitVec.ofNat 14 p.v.toNat) d p with v := BitVec.ofNat 15 (p.v.toNat + increment p) } := by
  rw [Ppu.writeData, advance_eq, BitVec.ofNat_toNat, vramWrite_eq]
  rfl

theorem toNat_ofNat_video (v : Nat) : (BitVec.ofNat 14 v).toNat = v % 0x4000 := BitVec.toNat_ofNat v 14

theorem readData_buffered {c : Cartridge} {p : Ppu} (h : p.v.toNat % 0x4000 < 0x3F00) : p.readData c =
    (p.buffer, { p with v := BitVec.ofNat 15 (p.v.toNat + increment p),
                        buffer := vramRead c p (BitVec.ofNat 14 p.v.toNat) }) := by
  have hnot : ¬0x3F00 ≤ (BitVec.ofNat 14 p.v.toNat).toNat := by rw [toNat_ofNat_video]; omega
  rw [Ppu.readData, ← BitVec.ofNat_toNat, if_neg hnot, advance_eq]
  rfl

/-- The byte behind a palette address in the nametables: 0x1000 below (R635). -/
theorem palette_and_eq {v : Nat} (h : 0x3F00 ≤ v % 0x4000) :
    BitVec.ofNat 14 v &&& 0x2FFF#14 = BitVec.ofNat 14 (v - 0x1000) := by
  have hall : ∀ k : Byte, BitVec.ofNat 14 (0x3F00 + k.toNat) &&& 0x2FFF#14 = BitVec.ofNat 14 (0x2F00 + k.toNat) := by decide
  have hv : BitVec.ofNat 14 v = BitVec.ofNat 14 (0x3F00 + (BitVec.ofNat 8 v).toNat) := by
    apply BitVec.eq_of_toNat_eq
    rw [toNat_ofNat_video, toNat_ofNat_video, BitVec.toNat_ofNat]
    omega
  have hv' : BitVec.ofNat 14 (v - 0x1000) = BitVec.ofNat 14 (0x2F00 + (BitVec.ofNat 8 v).toNat) := by
    apply BitVec.eq_of_toNat_eq
    rw [toNat_ofNat_video, toNat_ofNat_video, BitVec.toNat_ofNat]
    omega
  rw [hv, hv', hall]

theorem readData_palette {c : Cartridge} {p : Ppu} (h : 0x3F00 ≤ p.v.toNat % 0x4000) : p.readData c =
    (vramRead c p (BitVec.ofNat 14 p.v.toNat),
      { p with v := BitVec.ofNat 15 (p.v.toNat + increment p),
               buffer := vramRead c p (BitVec.ofNat 14 (p.v.toNat - 0x1000)) }) := by
  have hpalette : 0x3F00 ≤ (BitVec.ofNat 14 p.v.toNat).toNat := by rw [toNat_ofNat_video]; exact h
  rw [Ppu.readData, ← BitVec.ofNat_toNat, if_pos hpalette, palette_and_eq h, advance_eq]
  simp only [increment]

/-! ## Selecting an address, writing and reading -/

theorem videoTarget_congr {rom : Bool} {h h' : HStatus} (hc : h'.chrBank = h.chrBank) (hm : h'.mirror = h.mirror)
    (a : BitVec 14) : videoTarget rom h' a = videoTarget rom h a := by
  simp only [videoTarget, hc, hm]

/-- `q` is `p` with the VRAM address at `x`, the latch at its first stage, the video array `mem` and the buffer `b`. -/
structure DataAt (p : Ppu) (x : Nat) (mem : Memory) (b : Byte) (q : Ppu) : Prop where
  address : q.v.toNat = x
  latch : q.w = false
  array : q.vram = mem
  buffer : q.buffer = b
  ctrl : q.current.ctrl = p.current.ctrl
  chrBank : q.current.chrBank = p.current.chrBank
  mirror : q.current.mirror = p.current.mirror

section
variable {p q : Ppu} {x i : Nat} {mem : Memory} {b : Byte} {c : Cartridge}

theorem DataAt.select (h : DataAt p x mem b q) (hi lo : Byte) :
    DataAt p (hi.toNat % 64 * 256 + lo.toNat) mem b ((q.writeAddr hi).writeAddr lo) := by
  have hlo := lo.isLt
  constructor <;> simp only [writeAddr_eq, h.latch, Bool.not_false, Bool.not_true, if_true]
  case address => rw [addrT_second_toNat, addrT_first_toNat]; omega
  case array => exact h.array
  case buffer => exact h.buffer
  case ctrl => exact h.ctrl
  case chrBank => exact h.chrBank
  case mirror => exact h.mirror

theorem DataAt.increment_eq (h : DataAt p x mem b q) : increment q = increment p := by
  rw [increment, increment, h.ctrl]

theorem DataAt.address_advanced (h : DataAt p x mem b q) (hx : x < 0x4000) :
    (BitVec.ofNat 15 (q.v.toNat + increment q)).toNat = x + increment p := by
  have hinc : increment p ≤ 32 := by unfold increment; split <;> omega
  rw [h.increment_eq, h.address, BitVec.toNat_ofNat]
  omega

theorem DataAt.vramRead_eq (h : DataAt p x mem b q) (ht : videoTarget c.hasChrRom p.current (BitVec.ofNat 14 x) = .video i) :
    vramRead c q (BitVec.ofNat 14 q.v.toNat) = mem.read i := by
  rw [vramRead, h.address, videoTarget_congr h.chrBank h.mirror, ht, h.array]

theorem DataAt.write (h : DataAt p x mem b q) (hx : x < 0x4000)
    (ht : videoTarget c.hasChrRom p.current (BitVec.ofNat 14 x) = .video i) (d : Byte) :
    DataAt p (x + increment p) (mem.write i d) b (q.writeData c d) := by
  have hwrite : vramWrite c (BitVec.ofNat 14 q.v.toNat) d q = { q with vram := mem.write i d } := by
    rw [vramWrite, h.address, videoTarget_congr h.chrBank h.mirror, ht, h.array]
  rw [writeData_eq, hwrite]
  exact ⟨h.address_advanced hx, h.latch, rfl, h.buffer, h.ctrl, h.chrBank, h.mirror⟩

theorem DataAt.readBuffered (h : DataAt p x mem b q) (hx : x < 0x3F00)
    (ht : videoTarget c.hasChrRom p.current (BitVec.ofNat 14 x) = .video i) :
    (q.readData c).1 = b ∧ DataAt p (x + increment p) mem (mem.read i) (q.readData c).2 := by
  rw [readData_buffered (by rw [h.address]; omega)]
  exact ⟨h.buffer, h.address_advanced (by omega), h.latch, h.array, h.vramRead_eq ht, h.ctrl, h.chrBank, h.mirror⟩

theorem DataAt.readPalette (h : DataAt p x mem b q) (hx : 0x3F00 ≤ x) (hx' : x < 0x4000)
    (ht : videoTarget c.hasChrRom p.current (BitVec.ofNat 14 x) = .video i) :
    (q.readData c).1 = mem.read i ∧ ∃ b', DataAt p (x + increment p) mem b' (q.readData c).2 := by
  rw [readData_palette (by rw [h.address]; omega)]
  exact ⟨h.vramRead_eq ht, _, h.address_advanced hx', h.latch, h.array, rfl, h.ctrl, h.chrBank, h.mirror⟩

end

/-- Below the palette a DATA address leads to a byte with the same offset in its 1024 bytes. -/
theorem videoTarget_below_palette {rom : Bool} {h : HStatus} {x : Nat} (hx : x < 0x3F00) (hrom : rom = false ∨ 0x2000 ≤ x) :
    ∃ i, videoTarget rom h (BitVec.ofNat 14 x) = .video i ∧ i % 1024 = x % 1024 := by
  have hv : (BitVec.ofNat 14 x).toNat = x := by rw [toNat_ofNat_video]; omega
  rcases Nat.lt_or_ge x 0x2000 with hlow | hlow
  · obtain rfl : rom = false := hrom.resolve_right (by omega)
    exact ⟨x, by rw [videoTarget_chrRam (by omega), hv], rfl⟩
  · exact ⟨_, videoTarget_nametable (by omega) (by omega), by omega⟩

/-- Two neighbours in the palette range are two bytes. -/
theorem paletteIndex_succ_ne (x : Nat) : paletteIndex (BitVec.ofNat 14 x) ≠ paletteIndex (BitVec.ofNat 14 (x + 1)) := by
  have hmod : (x + 1) % 0x4000 % 32 = (x % 0x4000 % 32 + 1) % 32 := by omega
  have hlt : x % 0x4000 % 32 < 32 := Nat.mod_lt _ (by decide)
  rw [paletteIndex_eq, paletteIndex_eq, toNat_ofNat_video, toNat_ofNat_video, hmod]
  generalize x % 0x4000 % 32 = k at hlt
  revert k
  decide

/-- Selecting an address, writing two bytes and selecting the address again. -/
def writeTwo (c : Cartridge) (hi lo d1 d2 : Byte) (p : Ppu) : Ppu :=
  (((((p.writeAddr hi).writeAddr lo).writeData c d1).writeData c d2).writeAddr hi).writeAddr lo

theorem writeTwo_dataAt {p : Ppu} {c : Cartridge} {hi lo : Byte} {x i j : Nat} (ha : x = hi.toNat % 64 * 256 + lo.toNat)
    (hw : p.w = false) (hx : x + increment p < 0x4000)
    (hi' : videoTarget c.hasChrRom p.current (BitVec.ofNat 14 x) = .video i)
    (hj : videoTarget c.hasChrRom p.current (BitVec.ofNat 14 (x + increment p)) = .video j) (d1 d2 : Byte) :
    DataAt p x ((p.vram.write i d1).write j d2) p.buffer (writeTwo c hi lo d1 d2 p) := by
  have hstart : DataAt p p.v.toNat p.vram p.buffer p := ⟨rfl, hw, rfl, rfl, rfl, rfl, rfl⟩
  have hselected := hstart.select hi lo
  have hlt : x < 0x4000 := Nat.lt_of_le_of_lt (Nat.le_add_right _ _) hx
  rw [← ha] at hselected
  have hwritten := ((hselected.write hlt hi' d1).write hx hj d2).select hi lo
  rwa [← ha] at hwritten

theorem read_two_writes {m : Memory} {i j : Nat} (hwf : m.wf = true) (hij : i ≠ j) (d1 d2 : Byte) :
    ((m.write i d1).write j d2).read i = d1 ∧ ((m.write i d1).write j d2).read j = d2 := by
  constructor
  · rw [Memory.read_write_other _ _ _ _ hij, Memory.read_write_same _ _ _ hwf]
  · exact Memory.read_write_same _ _ _ (Memory.wf_write _ _ _ hwf)

/-- Settles O50: two writes and the reads after them, by where the address and the next one lead. -/
theorem ppuDataBuffer : Obligations.PpuDataBuffer := by
  intro aA aD hi lo d1 d2 s hA hD hR haA haD inc v palette
  have haddr (d : Byte) (q : Ppu) : busWrite aA d { s with ppu := q } = { s with ppu := q.writeAddr d } :=
    addrWrite_eq (s := { s with ppu := q }) hA haA d
  have hdata (d : Byte) (q : Ppu) : busWrite aD d { s with ppu := q } = { s with ppu := q.writeData s.cart d } :=
    dataWrite_eq (s := { s with ppu := q }) hD haD d
  have hread (q : Ppu) : busRead aD { s with ppu := q } = ((q.readData s.cart).1, { s with ppu := (q.readData s.cart).2 }) :=
    busRead_window (s := { s with ppu := q }) hR haD
  refine ⟨?write, fun hp => ?palette, fun hp => ?buffered, fun hw hwf => ?sequence⟩
  case write => exact (hdata d1 s.ppu).trans (by rw [writeData_eq]; rfl)
  case palette => exact (hread s.ppu).trans (by rw [readData_palette hp]; rfl)
  case buffered => exact (hread s.ppu).trans (by rw [readData_buffered (Nat.lt_of_not_le hp)]; rfl)
  case sequence =>
    intro a q r1 r2 r3
    obtain ⟨p, hp⟩ : ∃ p, p = writeTwo s.cart hi lo d1 d2 s.ppu := ⟨_, rfl⟩
    have hq : q = { s with ppu := p } := by
      have hfirst : busWrite aA hi s = { s with ppu := s.ppu.writeAddr hi } := haddr hi s.ppu
      simp only [q, hfirst, haddr, hdata, hp, writeTwo]
    clear_value q
    subst hq
    simp only [r1, r2, r3, hread]
    have hinc : inc = increment s.ppu := rfl
    have hcases : inc = 32 ∨ inc = 1 := ite_eq_or_eq _ _ _
    have ha : a = hi.toNat % 64 * 256 + lo.toNat := rfl
    clear_value inc a
    subst hinc
    refine ⟨fun hbelow hrom => ?_, fun hone hpalette htop => ?_⟩
    · have hbelow' : a < 0x3F00 := Nat.lt_of_le_of_lt (Nat.le_add_right _ _) hbelow
      obtain ⟨i, hi', himod⟩ := videoTarget_below_palette (h := s.ppu.current) hbelow' hrom
      obtain ⟨j, hj, hjmod⟩ := videoTarget_below_palette (h := s.ppu.current) hbelow (hrom.imp_right (by omega))
      have hij : i ≠ j := by omega
      obtain ⟨hread1, hread2⟩ := read_two_writes hwf hij d1 d2
      have hat := writeTwo_dataAt ha hw (by omega) hi' hj d1 d2
      rw [← hp] at hat
      obtain ⟨hfirst, hat⟩ := hat.readBuffered hbelow' hi'
      obtain ⟨hsecond, hat⟩ := hat.readBuffered hbelow hj
      refine ⟨hfirst, hsecond.trans hread1, fun hthird => ?_⟩
      have hthird : a + increment s.ppu + increment s.ppu < 0x3F00 := by omega
      obtain ⟨k, hk, -⟩ := videoTarget_below_palette (h := s.ppu.current) hthird (hrom.imp_right (by omega))
      exact (hat.readBuffered hthird hk).1.trans hread2
    · have htarget (x : Nat) (hlow : 0x3F00 ≤ x) (hhigh : x < 0x4000) :=
        videoTarget_palette (rom := s.cart.hasChrRom) (h := s.ppu.current) (a := BitVec.ofNat 14 x)
          (by rw [toNat_ofNat_video]; omega)
      have hi' := htarget a hpalette (by omega)
      have hj := htarget (a + increment s.ppu) (by omega) (by omega)
      have hij : 0x3F00 + paletteIndex (BitVec.ofNat 14 a) ≠ 0x3F00 + paletteIndex (BitVec.ofNat 14 (a + increment s.ppu)) := by
        have hne := paletteIndex_succ_ne a
        rw [hone]
        omega
      obtain ⟨hread1, hread2⟩ := read_two_writes hwf hij d1 d2
      have hat := writeTwo_dataAt ha hw (by omega) hi' hj d1 d2
      rw [← hp] at hat
      obtain ⟨hfirst, _, hat⟩ := hat.readPalette hpalette (by omega) hi'
      obtain ⟨hsecond, -⟩ := hat.readPalette (by omega) (by omega) hj
      exact ⟨hfirst.trans hread1, hsecond.trans hread2⟩

end Sys2Proof.Rules
end

section
/-! PROOFS. OAM DMA and the scanline tick (R637 to R640, R642, R646). -/

namespace Sys2Proof.Rules

open Sys2Proof.Machine

/-! ## OAM DMA -/

/-- The addresses of a page are in one block. -/
theorem blockOf_page (d : Byte) {i : Nat} (hi : i < 256) :
    blockOf (BitVec.ofNat 16 (256 * d.toNat + i)) = blockOf (BitVec.ofNat 16 (256 * d.toNat)) := by
  have hd := d.isLt
  apply Fin.ext
  simp only [blockOf, BitVec.toNat_ofNat]
  omega

theorem joinBytes_page (d : Byte) {i : Nat} (hi : i < 256) :
    joinBytes d (BitVec.ofNat 8 i) = BitVec.ofNat 16 (256 * d.toNat + i) := by
  rw [joinBytes_eq, BitVec.toNat_ofNat, Nat.mod_eq_of_lt hi]

/-- After `k` bytes of the copy: OAM alone has changed, and holds them. -/
structure CopiedTo (d : Byte) (s : State) (k : Nat) (t : State) : Prop where
  only : t = { s with ppu := { s.ppu with oam := t.ppu.oam } }
  wf : t.ppu.oam.wf = true
  bytes : ∀ i < k, t.ppu.oam.read ((s.ppu.oamAddr.toNat + i) % 256) = (busRead (BitVec.ofNat 16 (256 * d.toNat + i)) s).1

theorem CopiedTo.succ {d : Byte} {s t : State} {k : Nat} (h : CopiedTo d s k t) (hk : k < 256)
    (hplain : (s.readSlot[blockOf (BitVec.ofNat 16 (256 * d.toNat))]).isPlain = true) :
    CopiedTo d s (k + 1) (oamDmaByte d t k) := by
  obtain ⟨honly, hwf, hbytes⟩ := h
  generalize t.ppu.oam = m at *
  subst honly
  have hslot : (s.readSlot[blockOf (BitVec.ofNat 16 (256 * d.toNat + k))]).isPlain = true := by
    simp only [blockOf_page d hk]; exact hplain
  have hread : busRead (BitVec.ofNat 16 (256 * d.toNat + k)) { s with ppu := { s.ppu with oam := m } } =
      ((busRead (BitVec.ofNat 16 (256 * d.toNat + k)) s).1, { s with ppu := { s.ppu with oam := m } }) :=
    Prod.ext (busRead_congr _ hslot rfl rfl rfl rfl rfl rfl) (busRead_plain _ _ hslot)
  have hindex : (s.ppu.oamAddr + BitVec.ofNat 8 k).toNat = (s.ppu.oamAddr.toNat + k) % 256 := by
    rw [BitVec.toNat_add, BitVec.toNat_ofNat]; omega
  have hbyte : oamDmaByte d { s with ppu := { s.ppu with oam := m } } k = { s with ppu := { s.ppu with
      oam := m.write ((s.ppu.oamAddr.toNat + k) % 256) (busRead (BitVec.ofNat 16 (256 * d.toNat + k)) s).1 } } := by
    simp only [oamDmaByte, joinBytes_page d hk, hread, hindex]
  rw [hbyte]
  refine ⟨rfl, Memory.wf_write _ _ _ hwf, fun i hi => ?_⟩
  rcases Nat.lt_succ_iff_lt_or_eq.mp hi with hlt | rfl
  · exact (Memory.read_write_other _ _ _ _ (by omega)).trans (hbytes i hlt)
  · exact Memory.read_write_same _ _ _ hwf

theorem copiedTo {d : Byte} {s : State} (hwf : s.ppu.oam.wf = true)
    (hplain : (s.readSlot[blockOf (BitVec.ofNat 16 (256 * d.toNat))]).isPlain = true) :
    ∀ k ≤ 256, CopiedTo d s k ((List.range k).foldl (oamDmaByte d) s) := by
  intro k hk
  induction k with
  | zero => exact ⟨rfl, hwf, fun i hi => absurd hi (Nat.not_lt_zero i)⟩
  | succ k ih =>
    rw [List.range_succ, List.foldl_append]
    exact (ih (by omega)).succ (by omega) hplain

/-- Settles O53: byte by byte, each at its own index. -/
theorem oamDmaCopiesAPage : Obligations.OamDmaCopiesAPage := by
  intro d s hinv hslot hplain
  obtain ⟨-, -, -, hoam, -⟩ := hinv
  have hslot : s.writeSlot[blockOf 0x4014#16] = .apuIo := hslot
  have hwrite : busWrite 0x4014#16 d s = oamDma d s := by simp only [busWrite, hslot, if_true]
  obtain ⟨honly, -, hbytes⟩ := copiedTo (Memory.ok_wf hoam) hplain 256 (Nat.le_refl _)
  rw [hwrite, oamDma]
  generalize (List.range 256).foldl (oamDmaByte d) s = t at *
  refine ⟨hbytes, ?_⟩
  rw [stall, honly]

/-! ## The scanline tick -/

/-- The tick before the VBlank and pre-render lines are looked at: the index and the sprite bits. -/
def tickLine (s : State) : State := updateSpriteStatus (advanceScanline s)

theorem tickLine_eq (s : State) (h : s.ppu.scanline ≤ 261) : tickLine s = { s with ppu := { s.ppu with
    scanline := (s.ppu.scanline + 1) % 262
    spriteZero := (tickLine s).ppu.spriteZero, overflow := (tickLine s).ppu.overflow } } := by
  have hline : (if s.ppu.scanline < 261 then s.ppu.scanline + 1 else 0) = (s.ppu.scanline + 1) % 262 := by
    split <;> omega
  simp only [tickLine, updateSpriteStatus, advanceScanline, hline]

theorem ppuTick_vblank {s : State} (h : s.ppu.scanline = 240) : ppuTick s = enterVblank (tickLine s) := by
  have hline : (tickLine s).ppu.scanline = 241 := by rw [tickLine_eq s (by omega), h]
  exact if_pos hline

theorem ppuTick_preRender {s : State} (h : s.ppu.scanline = 260) : ppuTick s = enterPreRender (tickLine s) := by
  have hline : (tickLine s).ppu.scanline = 261 := by rw [tickLine_eq s (by omega), h]
  exact (if_neg (by rw [show (updateSpriteStatus (advanceScanline s)).ppu.scanline = 261 from hline]; decide)).trans (if_pos hline)

theorem ppuTick_other {s : State} (h : s.ppu.scanline ≤ 261) (h0 : s.ppu.scanline ≠ 240) (h1 : s.ppu.scanline ≠ 260) :
    ppuTick s = tickLine s := by
  have hline : (tickLine s).ppu.scanline = (s.ppu.scanline + 1) % 262 := by rw [tickLine_eq s h]
  have hne0 : (tickLine s).ppu.scanline ≠ 241 := by omega
  have hne1 : (tickLine s).ppu.scanline ≠ 261 := by omega
  exact (if_neg hne0).trans (if_neg hne1)

theorem enterVblank_eq (t : State) : enterVblank t = { t with
    ppu := { t.ppu with vblank := true, lastFrame := t.ppu.save, save := t.ppu.current, finished := t.ppu.recording,
                        recording := [] }
    nmiPending := t.ppu.current.ctrl.getLsbD 7 || t.nmiPending
    nmiDelay := if t.ppu.current.ctrl.getLsbD 7 && !t.nmiPending then nmiLatchDelay else t.nmiDelay } := by
  cases hc : t.ppu.current.ctrl.getLsbD 7 with
  | false => simp only [enterVblank, hc, Bool.false_or, Bool.false_and, Bool.false_eq_true, if_false]
  | true =>
    simp only [enterVblank, requestNmi_eq, hc, if_true, Bool.true_or, Bool.true_and]
    cases hp : t.nmiPending <;> rfl

/-- The PPU's part of the tick changes the PPU and the NMI latch alone, and moves the index on. -/
theorem ppuTick_only {s : State} (h : s.ppu.scanline ≤ 261) : ∃ p pending delay,
    ppuTick s = { s with ppu := p, nmiPending := pending, nmiDelay := delay } ∧
      p.scanline = (s.ppu.scanline + 1) % 262 ∧ p.current = s.ppu.current := by
  have hline := tickLine_eq s h
  by_cases h0 : s.ppu.scanline = 240
  · rw [ppuTick_vblank h0, enterVblank_eq, hline]
    exact ⟨_, _, _, rfl, rfl, rfl⟩
  by_cases h1 : s.ppu.scanline = 260
  · rw [ppuTick_preRender h1, enterPreRender, hline]
    exact ⟨_, _, _, rfl, rfl, rfl⟩
  · rw [ppuTick_other h h0 h1, hline]
    exact ⟨_, _, _, rfl, rfl, rfl⟩

/-- Settles O54: the PPU's part by the line it enters, and then the mapper's hook. -/
theorem scanlineTick : Obligations.ScanlineTick := by
  intro s h t
  obtain ⟨p, pending, delay, ht, hscanline, hcurrent⟩ := ppuTick_only h
  have hhook : Machine.scanlineTick s = onHblank ((s.ppu.scanline + 1) % 262) t := by
    show onHblank (ppuTick s).ppu.scanline (ppuTick s) = _
    rw [show (ppuTick s).ppu.scanline = (s.ppu.scanline + 1) % 262 by rw [ht, hscanline]]
  have hquiet (hcalls : s.mapper.callsBack = false) : Machine.scanlineTick s = t := by
    rw [hhook]
    exact mapperInput_of_not_callsBack (s := t) (by rw [show t = _ from ht]; exact hcalls) _
  refine ⟨hhook, ?cpu, hquiet, ⟨fun hcalls => ?slots, fun hinstalled => ?installed⟩, ?scanline, ?current, fun hv => ?vblank,
    fun hr => ?preRender, fun h0 h1 => ?other⟩
  case cpu =>
    obtain ⟨_, _, _, _, _, honly⟩ := mapperInput_only (.hblank ((s.ppu.scanline + 1) % 262)) t
    rw [hhook, onHblank, honly, show t = _ from ht]
  case slots => rw [hquiet hcalls, show t = _ from ht]; exact ⟨rfl, rfl⟩
  case installed =>
    rw [hhook]
    refine mapperInput_installed _ t ?_
    rw [show t = _ from ht]
    exact installed_congr (s := s) rfl rfl rfl rfl hinstalled
  case scanline => rw [show t = _ from ht, hscanline]
  case current => rw [show t = _ from ht, hcurrent]
  case vblank =>
    rw [show t = _ from ppuTick_vblank hv, enterVblank_eq, tickLine_eq s h]
    refine ⟨rfl, rfl, rfl, rfl, rfl, fun hc => ?_, fun hc => ?_⟩
    · simp only [hc, Bool.true_or, true_and, Bool.true_and]
      intro hp
      rw [hp]
      rfl
    · simp only [hc, Bool.false_or, Bool.false_and, true_and]
      rfl
  case preRender => rw [show t = _ from ppuTick_preRender hr]; exact ⟨rfl, rfl, rfl⟩
  case other => rw [show t = _ from ppuTick_other h h0 h1, tickLine_eq s h]; exact ⟨rfl, rfl, rfl, rfl, rfl⟩

end Sys2Proof.Rules
end

section
/-! PROOFS. Saving and restoring (R65, R647): what a load rebuilds, and that states which differ in the fault records and in the
last step's count and accesses stay so under every call. -/

namespace Sys2Proof.Rules

open Sys2Proof.Machine

/-! ## Load of a save -/

/-- What a load puts into a session, before it installs the handlers: the saved state but for these and the records. -/
theorem loadState_saveState {s t : State} (hinstalled : installDevices s = s) (hc : t.cart = s.cart) (hp : t.params = s.params) :
    sameButRecords (loadState (saveState s) t) s := by
  obtain ⟨rs, ws, hslots⟩ := installDevices_slots s
  have hs : s.withSlots rs ws = s := (hslots s rfl rfl).symm.trans hinstalled
  have hload : loadState (saveState s) t = _ := hslots { t with
    cpu := s.cpu, nmiPending := s.nmiPending, nmiDelay := s.nmiDelay, irqRequest := s.irqRequest,
    stallCycles := s.stallCycles, paused := s.paused, debugCfg := s.debugCfg, ppu := s.ppu, ram := s.ram,
    prgRam := s.prgRam, flat := s.flat, mapper := s.mapper, cycleTotal := s.cycleTotal, deviceLog := s.deviceLog } hc rfl
  rw [hload, sameButRecords, ← hs]
  simp only [State.withSlots, hc, hp]

/-! ## Equal so far -/

/-- `s` with other fault records, count and accesses. -/
def withLast (l : List Fault) (n : Nat) (tr : List BusAccess) (s : State) : State :=
  { s with faults := l, stepCycles := n, trace := tr }

theorem sameButRecords_iff {u v : State} : sameButRecords u v ↔ v = withLast v.faults v.stepCycles v.trace u := eq_comm

theorem sameButRecords_withLast (l : List Fault) (n : Nat) (tr : List BusAccess) (s : State) :
    sameButRecords s (withLast l n tr s) := rfl

/-! ## A step -/

/-- The same state under two lists of fault records. -/
def SameUnderRecords (u v : State) : Prop :=
  ∃ (x : State) (d : Debug) (l l' : List Fault), u = withRecords ⟨d, l⟩ x ∧ v = withRecords ⟨d, l'⟩ x

theorem beginStep_sameUnderRecords (l : List Fault) (n : Nat) (tr : List BusAccess) (u : State) :
    SameUnderRecords (beginStep u) (beginStep (withLast l n tr u)) := by
  refine ⟨{ beginStep u with faults := [] }, u.debugCfg, u.faults, l, ?_, ?_⟩
  · simp only [withRecords, beginStep, List.append_nil]
  · simp only [withRecords, beginStep, withLast, List.append_nil]

theorem sameUnderRecords_of_blind {f : State → State} (hf : Blind f) {u v : State} (h : SameUnderRecords u v) :
    SameUnderRecords (f u) (f v) := by
  obtain ⟨x, d, l, l', rfl, rfl⟩ := h
  exact ⟨f x, d, l, l', hf _ _, hf _ _⟩

/-- Equal but for the records, with the same count and accesses. -/
def SameResult (u v : State) : Prop := sameButRecords u v ∧ u.stepCycles = v.stepCycles ∧ u.trace = v.trace

theorem SameUnderRecords.finishStep {u v : State} (h : SameUnderRecords u v) (nmi irq : Bool) :
    SameResult (Machine.finishStep nmi irq u) (Machine.finishStep nmi irq v) := by
  obtain ⟨x, d, l, l', rfl, rfl⟩ := h
  exact ⟨rfl, rfl, rfl⟩

theorem SameUnderRecords.finishStall {u v : State} (h : SameUnderRecords u v) :
    SameResult (Machine.finishStall (consumeStall u)) (Machine.finishStall (consumeStall v)) := by
  obtain ⟨x, d, l, l', rfl, rfl⟩ := h
  exact ⟨rfl, rfl, rfl⟩

theorem SameUnderRecords.instruction {u v : State} (h : SameUnderRecords u v) : ∃ u' v',
    finishInstr (exec (fetchInstr u).1 (fetchInstr u).2) = .next u' ∧
      finishInstr (exec (fetchInstr v).1 (fetchInstr v).2) = .next v' ∧ SameResult u' v' := by
  obtain ⟨x, d, l, l', rfl, rfl⟩ := h
  obtain ⟨t, ht, hu⟩ := exec_withRecords (fetchInstr x).1 ⟨d, l⟩ (fetchInstr x).2
  obtain ⟨t', ht', hv⟩ := exec_withRecords (fetchInstr x).1 ⟨d, l'⟩ (fetchInstr x).2
  rw [ht] at ht'
  cases ht'
  simp only [fetchInstr_withRecords, hu, hv, finishInstr]
  refine ⟨_, _, rfl, rfl, ?_⟩
  have hp (l : List Fault) : (withRecords ⟨d, l⟩ t).paused = t.paused := rfl
  rw [hp, hp]
  cases t.paused with
  | true => exact ⟨rfl, rfl, rfl⟩
  | false => exact ⟨rfl, rfl, rfl⟩

theorem step_sameResult (l : List Fault) (n : Nat) (tr : List BusAccess) (u : State) :
    ∃ u' v', step u = .next u' ∧ step (withLast l n tr u) = .next v' ∧ SameResult u' v' := by
  have hbegin := beginStep_sameUnderRecords l n tr u
  rcases step_cases u with ⟨hp, h⟩ | ⟨hp, hn, h⟩ | ⟨hp, hn, hi, h⟩ | ⟨hp, hn, hi, hs, h⟩ | ⟨hp, hn, hi, hs, h⟩
  · exact ⟨_, _, h, step_of_paused (s := withLast l n tr u) hp, rfl, rfl, rfl⟩
  · exact ⟨_, _, h, step_of_nmi (s := withLast l n tr u) hp hn,
      (sameUnderRecords_of_blind blind_serviceNmi hbegin).finishStep _ _⟩
  · exact ⟨_, _, h, step_of_irq (s := withLast l n tr u) hp hn hi,
      (sameUnderRecords_of_blind blind_serviceIrq hbegin).finishStep _ _⟩
  · exact ⟨_, _, h, step_of_stall (s := withLast l n tr u) hp hn hi hs, hbegin.finishStall⟩
  · obtain ⟨u', v', hu, hv, hsame⟩ := hbegin.instruction
    exact ⟨u', v', h.trans hu, (step_of_fetch (s := withLast l n tr u) hp hn hi hs).trans hv, hsame⟩

/-! ## The host's calls -/

theorem withCore_withLast (l : List Fault) (n : Nat) (tr : List BusAccess) (u : State) :
    (withLast l n tr u).withCore u = withLast l n tr u := rfl

/-- What commutes with replacing what the Bus does not look at keeps states equal so far. -/
theorem sameButRecords_of_withCore {f : State → State} (hf : ∀ o s : State, f (o.withCore s) = o.withCore (f s))
    (l : List Fault) (n : Nat) (tr : List BusAccess) (u : State) : sameButRecords (f u) (f (withLast l n tr u)) := by
  have hu : f u = u.withCore (f u) := hf u u
  have hv : f (withLast l n tr u) = (withLast l n tr u).withCore (f u) := hf (withLast l n tr u) u
  rw [hv, hu]
  rfl

theorem requestNmi_withCore (o s : State) : requestNmi (o.withCore s) = o.withCore (requestNmi s) := by
  rw [requestNmi_eq, requestNmi_eq]
  rfl

theorem ppuTick_withCore (o s : State) : ppuTick (o.withCore s) = o.withCore (ppuTick s) := by
  have hline : updateSpriteStatus (advanceScanline (o.withCore s)) =
      o.withCore (updateSpriteStatus (advanceScanline s)) := rfl
  unfold ppuTick
  rw [hline]
  generalize updateSpriteStatus (advanceScanline s) = t
  dsimp only
  rw [apply_ite o.withCore, apply_ite o.withCore, enterVblank_eq, enterVblank_eq]
  rfl

theorem scanlineTick_withCore (o s : State) :
    Machine.scanlineTick (o.withCore s) = o.withCore (Machine.scanlineTick s) := by
  unfold Machine.scanlineTick
  rw [ppuTick_withCore]
  exact mapperInput_withCore _ o (ppuTick s)

theorem busRead_withLast (a : Word) (l : List Fault) (n : Nat) (tr : List BusAccess) (s : State) :
    busRead a (withLast l n tr s) = ((busRead a s).1, withLast l n tr (busRead a s).2) := by
  have h := busRead_withCore a (withLast l n tr s) s
  rw [withCore_withLast] at h
  rw [h, withLast, State.withCore, withLast]
  simp only [busRead_cpu, busRead_paused, busRead_debug]

theorem cpuReset_withLast (l : List Fault) (n : Nat) (tr : List BusAccess) (s : State) :
    cpuReset (withLast l n tr s) = withLast l n tr (cpuReset s) := by
  have hfirst : ((withLast l n tr s).setSp ((withLast l n tr s).cpu.sp - 3#8)).setFlags { (withLast l n tr s).cpu.p with i := true } =
      withLast l n tr ((s.setSp (s.cpu.sp - 3#8)).setFlags { s.cpu.p with i := true }) := rfl
  simp only [cpuReset, hfirst, busRead_withLast]
  rfl

/-- Settles O59: a load rebuilds the saved state, and no call looks at the records, the count or the accesses. -/
theorem loadOfSave : Obligations.LoadOfSave := by
  refine ⟨fun s t hinstalled hc hp => loadState_saveState hinstalled hc hp, fun u v h => ?_⟩
  rw [sameButRecords_iff.mp h]
  generalize v.faults = l
  generalize v.stepCycles = n
  generalize v.trace = tr
  refine ⟨step_sameResult l n tr u, sameButRecords_of_withCore scanlineTick_withCore l n tr u, ?reset,
    sameButRecords_of_withCore requestNmi_withCore l n tr u, fun q => ⟨rfl, rfl⟩, fun _ => rfl, fun _ => rfl, fun _ => rfl⟩
  case reset => rw [cpuReset_withLast]; rfl

end Sys2Proof.Rules
end

section
/-! PROOFS. The start of a session (R630, R644, R645, R702): the header of an image, the cartridge it makes, and the reset with the
image's own vector. -/

namespace Sys2Proof.Rules

open Sys2Proof.Machine

/-! ## The header -/

theorem inesMapperNumber_eq (h6 h7 : Byte) : inesMapperNumber h6 h7 = h7.toNat / 16 * 16 + h6.toNat / 16 := by
  have hhigh : (h7 &&& 0xF0#8).toNat = (h7.toNat / 16) <<< 4 := by revert h7; decide
  have hlow : (h6 >>> 4).toNat = h6.toNat / 16 := by rw [BitVec.toNat_ushiftRight, Nat.shiftRight_eq_div_pow]
  have hlt : h6.toNat / 16 < 2 ^ 4 := by have h := h6.isLt; omega
  rw [inesMapperNumber, BitVec.toNat_or, hhigh, hlow, ← Nat.shiftLeft_add_eq_or_of_lt hlt, Nat.shiftLeft_eq]

theorem mapperOfNumber_eq_none : ∀ {n : Nat}, n ≠ 0 → n ≠ 2 → mapperOfNumber n = none
  | 0, h0, _ => absurd rfl h0
  | 1, _, _ => rfl
  | 2, _, h2 => absurd rfl h2
  | _ + 3, _, _ => rfl

/-- Where the PRG-ROM bytes begin (R645). -/
def dataStart (h6 : Nat) : Nat := if h6 / 4 % 2 = 1 then 528 else 16

theorem inesData_eq (h6 : Byte) (image : List Byte) : inesData h6 image = image.drop (dataStart h6.toNat) := by
  have hbit : h6.getLsbD 2 = decide (h6.toNat / 4 % 2 = 1) := getLsbD_iff h6 2
  simp only [inesData, dataStart, hbit, decide_eq_true_eq]

/-! ## The handlers of a reference mapper -/

theorem installDevices_idem (s : State) : installDevices (installDevices s) = installDevices s := by
  obtain ⟨rs, ws, h⟩ := installDevices_slots s
  rw [h s rfl rfl, h (s.withSlots rs ws) rfl rfl]
  rfl

/-- A reference mapper has its PRG-ROM in the block of the vectors (R644). -/
theorem installDevices_readSlot_seven {s : State} (hm : s.mapper = .nrom ∨ ∃ b, s.mapper = .uxrom b) :
    (installDevices s).readSlot[(7 : Fin 8)] = .cartridge := by
  obtain ⟨rs, ws, hconsole⟩ := installConsole_table
  have hrom (slots : Vector Handler 8) : (installRange 0x8000#16 0xFFFF#16 .cartridge slots)[(7 : Fin 8)] = .cartridge :=
    (installRange_getElem _ _ _ _ _).trans (if_pos (by decide))
  have hram (slots : Vector Handler 8) : (installRange 0x6000#16 0x7FFF#16 .prgRam slots)[(7 : Fin 8)] = slots[(7 : Fin 8)] :=
    (installRange_getElem _ _ _ _ _).trans (if_neg (by decide))
  rcases hm with hm | ⟨b, hm⟩
  · simp only [installDevices, installMapper, hconsole, State.withSlots_mapper, hm]
    split
    · exact (hram _).trans (hrom _)
    · exact hrom _
  · simp only [installDevices, installMapper, hconsole, State.withSlots_mapper, hm]
    exact hrom _

/-! ## The first state -/

/-- A machine powered on with a cartridge whose arrays are canonical meets the invariant. -/
theorem powerOn_inv {cart : Cartridge} {mapper : Mapper} {ram : Memory} (hram : ram.ok 2048 = true)
    (hprg : cart.prg.ok (16384 * cart.prgBanks) = true) (hchr : cart.chr.ok (8192 * cart.chrBanks) = true)
    (hbanks : 0 < cart.prgBanks) (hmapper : mapper.bankInRange cart.prgBanks = true) :
    (State.powerOn cart mapper ram).Inv := by
  obtain ⟨rs, ws, h⟩ := installDevices_slots { State.reset with
    cpu := { a := 0#8, x := 0#8, y := 0#8, sp := 0#8, pc := 0#16, p := Flags.construction }
    ram := ram, ppu := Ppu.powerOn cart.mirror, cart := cart, mapper := mapper }
  rw [State.powerOn, h _ rfl rfl]
  exact ⟨hram, rfl, rfl, rfl, rfl, hprg, hchr, hbanks, hmapper, Nat.zero_le _, fun _ => rfl, Int.zero_le_ofNat 2⟩

/-- Everything of the first state but the handlers. -/
theorem powerOn_eq (cart : Cartridge) (mapper : Mapper) (ram : Memory) : ∃ rs ws, State.powerOn cart mapper ram =
    { State.reset with
      cpu := { a := 0#8, x := 0#8, y := 0#8, sp := 0#8, pc := 0#16, p := Flags.construction }
      ram := ram, ppu := Ppu.powerOn cart.mirror, cart := cart, mapper := mapper, readSlot := rs, writeSlot := ws } := by
  obtain ⟨rs, ws, h⟩ := installDevices_slots { State.reset with
    cpu := { a := 0#8, x := 0#8, y := 0#8, sp := 0#8, pc := 0#16, p := Flags.construction }
    ram := ram, ppu := Ppu.powerOn cart.mirror, cart := cart, mapper := mapper }
  exact ⟨rs, ws, h _ rfl rfl⟩

/-! ## Loading -/

/-- Byte `k` of an image, 0 past its end. -/
def imageByte (image : List Byte) (k : Nat) : Nat := (image.getD k 0#8).toNat

/-- The bytes of an image after its header and trainer (R645). -/
def imageData (image : List Byte) : List Byte := image.drop (dataStart (imageByte image 6))

/-- The cartridge that a complete image describes (R645). -/
def imageCartridge (image : List Byte) : Cartridge :=
  let h (i : Nat) : Byte := image.getD i 0#8
  let nes20 : Bool := (h 7).extractLsb' 2 2 == 2#2
  { prgBanks := imageByte image 4, chrBanks := imageByte image 5
    prg := Memory.ofBytes 0 ((imageData image).take (16384 * imageByte image 4))
    chr := Memory.ofBytes 0 (((imageData image).drop (16384 * imageByte image 4)).take (8192 * imageByte image 5))
    verticalMirror := (h 6).getLsbD 0, battery := (h 6).getLsbD 1, nes20 := nes20
    prgRamSize := if nes20 then some (inesPrgRamSize (h 10)) else none }

theorem ofBytes_ok {l : List Byte} {size : Nat} (h : l.length ≤ size) : (Memory.ofBytes 0 l).ok size = true := by
  rw [Memory.ok, Memory.wf_ofBytes, Memory.within_ofBytes size l 0 (by omega)]
  rfl

section
variable {image : List Byte}

theorem loadImage_badMagic (h : image.take 4 ≠ inesMagic) : loadImage image = .failed .badMagic := if_pos h

section
variable (hmagic : image.take 4 = inesMagic)
include hmagic

theorem loadImage_unsupported (h0 : imageByte image 7 / 16 * 16 + imageByte image 6 / 16 ≠ 0)
    (h2 : imageByte image 7 / 16 * 16 + imageByte image 6 / 16 ≠ 2) :
    loadImage image = .failed (.unsupportedMapper (imageByte image 7 / 16 * 16 + imageByte image 6 / 16)) := by
  have hnone := mapperOfNumber_eq_none h0 h2
  simp only [loadImage, hmagic, inesMapperNumber_eq, ne_eq, not_true_eq_false, if_false]
  simp only [imageByte] at hnone
  rw [hnone]
  rfl

theorem loadImage_loaded {mapper : Mapper}
    (hmapper : mapperOfNumber (imageByte image 7 / 16 * 16 + imageByte image 6 / 16) = some mapper)
    (hbanks : 0 < imageByte image 4)
    (hlength : dataStart (imageByte image 6) + 16384 * imageByte image 4 + 8192 * imageByte image 5 ≤ image.length) :
    loadImage image = .loaded (imageCartridge image) mapper := by
  unfold imageByte at *
  have hdata : ¬(image.drop (dataStart (image.getD 6 0#8).toNat)).length <
      16384 * (image.getD 4 0#8).toNat + 8192 * (image.getD 5 0#8).toNat := by rw [List.length_drop]; omega
  simp only [loadImage, hmagic, inesMapperNumber_eq, hmapper, inesData_eq, ne_eq, not_true_eq_false, if_false,
    if_neg (Nat.ne_of_gt hbanks), if_neg hdata]
  rfl

end

/-- The PRG-ROM bytes are the image's, from where its data begins. -/
theorem imageCartridge_prg {i : Nat} (hi : i < 16384 * imageByte image 4) :
    ((imageCartridge image).prg.read i).toNat = imageByte image (dataStart (imageByte image 6) + i) := by
  have hread := Memory.read_ofBytes ((imageData image).take (16384 * imageByte image 4)) 0 i
  rw [Nat.zero_add] at hread
  refine congrArg BitVec.toNat (hread.trans ?_)
  rw [Memory.unlisted, List.getD_eq_getElem?_getD, List.getElem?_take_of_lt hi, imageData, List.getElem?_drop,
    ← List.getD_eq_getElem?_getD]

end

theorem imageCartridge_prg_ok (image : List Byte) :
    (imageCartridge image).prg.ok (16384 * (imageCartridge image).prgBanks) = true := ofBytes_ok (List.length_take_le _ _)

theorem imageCartridge_chr_ok (image : List Byte) :
    (imageCartridge image).chr.ok (8192 * (imageCartridge image).chrBanks) = true := ofBytes_ok (List.length_take_le _ _)

/-! ## The session -/

/-- Where in the PRG-ROM a reference mapper presents the low byte of the reset vector (R644). -/
def vectorOffset (number banks : Nat) : Nat := if number = 0 then 0x7FFC % (16384 * banks) else 16384 * banks - 4

theorem prgOffset_vector {number banks : Nat} {mapper : Mapper} (h : mapperOfNumber number = some mapper)
    (hn : number = 0 ∨ number = 2) (hbanks : 0 < banks) :
    prgOffset mapper banks 0xFFFC#16 = vectorOffset number banks ∧
    prgOffset mapper banks 0xFFFD#16 = vectorOffset number banks + 1 ∧ vectorOffset number banks + 1 < 16384 * banks := by
  rcases hn with rfl | rfl
  · cases h
    have hnext : 0x7FFD % (16384 * banks) = 0x7FFC % (16384 * banks) + 1 := by
      obtain rfl | hlarge : banks = 1 ∨ 2 ≤ banks := by omega
      · rfl
      · rw [Nat.mod_eq_of_lt (by omega), Nat.mod_eq_of_lt (by omega)]
    refine ⟨prgOffset_nrom (by decide) banks, (prgOffset_nrom (by decide) banks).trans hnext, ?_⟩
    exact hnext ▸ Nat.mod_lt _ (by omega)
  · cases h
    have hlast : vectorOffset 2 banks = 16384 * banks - 4 := rfl
    have hlow := prgOffset_uxrom (a := 0xFFFC#16) (by decide) 0 banks
    have hhigh := prgOffset_uxrom (a := 0xFFFD#16) (by decide) 0 banks
    rw [if_neg (by decide)] at hlow hhigh
    have hc : (0xFFFC#16).toNat - 0xC000 = 16380 := by decide
    have hd : (0xFFFD#16).toNat - 0xC000 = 16381 := by decide
    omega

/-- A reset keeps the invariant where block 7 is plain memory: the NMI latch and the stall are cleared, the arrays stay. -/
theorem cpuReset_inv {s : State} (hplain : (s.readSlot[(7 : Fin 8)]).isPlain = true) (h : s.Inv) : (cpuReset s).Inv := by
  obtain ⟨hram, hprgRam, hflat, hoam, hvram, hprg, hchr, hbanks, hmapper, hline, -, -⟩ := h
  rw [resetProcedure s hplain]
  exact ⟨hram, hprgRam, hflat, hoam, hvram, hprg, hchr, hbanks, hmapper, hline, fun _ => rfl, Int.zero_le_ofNat 2⟩

theorem cpuReset_installed {s : State} (hplain : (s.readSlot[(7 : Fin 8)]).isPlain = true) (h : installDevices s = s) :
    installDevices (cpuReset s) = cpuReset s := by
  rw [resetProcedure s hplain]
  exact installed_congr (s := s) rfl rfl rfl rfl h

theorem installDevices_powerOn (cart : Cartridge) (mapper : Mapper) (ram : Memory) :
    installDevices (State.powerOn cart mapper ram) = State.powerOn cart mapper ram := installDevices_idem _

theorem mapperOfNumber_eq_some {number : Nat} (h : number = 0 ∨ number = 2) : ∃ mapper, mapperOfNumber number = some mapper ∧
    (mapper = .nrom ∨ ∃ b, mapper = .uxrom b) ∧ ∀ banks, 0 < banks → mapper.bankInRange banks = true := by
  rcases h with rfl | rfl
  · exact ⟨.nrom, rfl, .inl rfl, fun _ _ => rfl⟩
  · exact ⟨.uxrom 0, rfl, .inr ⟨0, rfl⟩, fun _ h => decide_eq_true h⟩

/-- A machine powered on with a reference mapper reads block 7 from the cartridge's PRG-ROM. -/
theorem busRead_powerOn {cart : Cartridge} {mapper : Mapper} (ram : Memory) (hm : mapper = .nrom ∨ ∃ b, mapper = .uxrom b)
    {a : Word} (ha : blockOf a = 7) :
    (busRead a (State.powerOn cart mapper ram)).1 = cart.prg.read (prgOffset mapper cart.prgBanks a) := by
  obtain ⟨rs, ws, hs⟩ := powerOn_eq cart mapper ram
  have hslot : (State.powerOn cart mapper ram).readSlot[(7 : Fin 8)] = .cartridge := installDevices_readSlot_seven hm
  rw [hs] at hslot ⊢
  exact busRead_cartridge ((congrArg (rs[·]) ha).trans hslot)

/-- Settles O60: by the header; a complete image of a reference mapper starts in the reset of the powered-on state, whose block 7
is the PRG-ROM that holds the vector. -/
theorem sessionStart : Obligations.SessionStart := by
  intro image ram hram h number base vector
  refine ⟨fun hmagic => ?magic, fun hmagic h0 h2 => ?unsupported, fun hmagic hnumber hbanks hlength => ?start⟩
  case magic => rw [startSession, loadImage_badMagic hmagic]
  case unsupported =>
    rw [startSession, loadImage_unsupported hmagic h0 h2]
    rfl
  case start =>
    obtain ⟨mapper, hmapper, hreference, hrange⟩ := mapperOfNumber_eq_some hnumber
    obtain ⟨hlow, hhigh, hoffset⟩ := prgOffset_vector hmapper hnumber hbanks
    obtain ⟨rs, ws, hs⟩ := powerOn_eq (imageCartridge image) mapper ram
    have hplain : ((State.powerOn (imageCartridge image) mapper ram).readSlot[(7 : Fin 8)]).isPlain = true :=
      congrArg Handler.isPlain (installDevices_readSlot_seven hreference)
    have hinv := cpuReset_inv hplain
      (powerOn_inv hram (imageCartridge_prg_ok image) (imageCartridge_chr_ok image) hbanks (hrange _ hbanks))
    have hvector : (busRead 0xFFFC#16 (State.powerOn (imageCartridge image) mapper ram)).1.toNat = h vector := by
      rw [busRead_powerOn ram hreference (by decide)]
      exact (imageCartridge_prg (hlow.trans_lt (Nat.lt_of_succ_lt hoffset))).trans (congrArg (fun k => h (base + k)) hlow)
    have hnext : (busRead 0xFFFD#16 (State.powerOn (imageCartridge image) mapper ram)).1.toNat = h (vector + 1) := by
      rw [busRead_powerOn ram hreference (by decide)]
      exact (imageCartridge_prg (hhigh.trans_lt hoffset)).trans (congrArg (fun k => h (base + k)) hhigh)
    have hinstalled := cpuReset_installed hplain (installDevices_powerOn _ _ _)
    have hreset := resetProcedure _ hplain
    rw [hvector, hnext] at hreset
    have hword : (BitVec.ofNat 16 (256 * h (vector + 1) + h vector)).toNat = 256 * h (vector + 1) + h vector := by
      rw [BitVec.toNat_ofNat, Nat.mod_eq_of_lt]
      have hhi : h (vector + 1) < 256 := BitVec.isLt _
      have hlo : h vector < 256 := BitVec.isLt _
      clear_value vector h
      omega
    refine ⟨_, by rw [startSession, loadImage_loaded hmagic hmapper hbanks hlength], hinv, hinstalled, ?_⟩
    rw [hreset, hs]
    exact ⟨rfl, rfl, rfl, rfl, rfl, rfl, rfl, hword⟩

end Sys2Proof.Rules
end
